-- ==== Sys2Proof/Word.lean ====
section
/-! DEFINITION. The word types of 00_scope.md R7: `u8` and `u32`. -/

namespace Sys2Proof

/-- `u8` of R7: one framebuffer byte, one byte on the wire, a panel-model id, a bit mask. -/
abbrev Byte := BitVec 8

/-- `u32` of R7: a host register, a command word. -/
abbrev Word := BitVec 32

end Sys2Proof
end

