-- ==== Sys2Proof/Syntax.lean ====
section
/-! DEFINITION. The operation set PXE-1 (30_encoding.md R83), the raw command-word format F32 (R81),
the host's accesses (10_state.md R42, R43), the closed reasons of 60_exceptions.md R210, and the
assembler's lines (R90, R92). -/

namespace Sys2Proof

/-- The ten operations of R83, with the fields each takes from the command word. -/
inductive Instr where
  /-- CONFIGURE: OR = `orient`, MODEL = `model`. -/
  | configure (orient : BitVec 2) (model : Byte)
  | resolve
  /-- SET_PIXEL: F = `on`. -/
  | setPixel (on : Bool)
  /-- FILL: F = `on`. -/
  | fill (on : Bool)
  | init
  | flush
  | sleep
  | wake
  | lowPower
  | highPower
deriving DecidableEq, Repr

/-- The fields of format F32 as they stand in a command word, used or not (R81). -/
structure Fields where
  /-- bits [31:16], reserved -/
  high : BitVec 16
  /-- bits [15:8] -/
  model : Byte
  /-- bit [7], reserved -/
  bit7 : BitVec 1
  /-- bits [6:5] -/
  orient : BitVec 2
  /-- bit [4] -/
  f : BitVec 1
  /-- bits [3:0] -/
  op : BitVec 4
deriving DecidableEq, Repr

/-- The closed list of refusal reasons of R210. -/
inductive RefusalReason where
  | reservedOpcode
  | reservedField
  | wrongState
  | badHostAccess
  | busyAccess
deriving DecidableEq, Repr

/-- One host access to the register space of 20_memory.md R60: an offset of its 64 bytes, a width in
bits, and for a write the value (log entries 15 and 20). -/
inductive HostAccess where
  | read (offset : BitVec 6) (bits : Nat)
  | write (offset : BitVec 6) (bits : Nat) (value : Word)
deriving DecidableEq, Repr

/-- What the outside world can do to the block (log entries 2, 3 and 18). -/
inductive HostInput where
  /-- An access by a host that first waits for BUSY = 0, as R232 and R240 ask of it. -/
  | access (a : HostAccess)
  /-- An access that arrives at once, also while an operation runs. -/
  | during (a : HostAccess)
  /-- The platform's block reset (70_reset_and_hazards.md R230). -/
  | blockReset
deriving DecidableEq, Repr

/-- The named host registers of R34. -/
inductive HostReg where
  | cmd | arg0 | arg1 | res0 | res1 | status | geom | cfg | bufsize | window
deriving DecidableEq, Repr

/-- One line of an assembler program: the mnemonics of R90, the pseudo-operations of R92 and the
three host primitives of R91. Numbers are as written, not yet checked. -/
inductive AsmLine where
  | configure (width height orient model : Int)
  | resolve (x y : Int)
  | setpx (x y on : Int)
  | fill (on : Int)
  | init
  | flush
  | sleep
  | wake
  | lowpwr
  | highpwr
  | plot (x y : Int)
  | erase (x y : Int)
  | clear
  | blacken
  | setup (width height orient model : Int)
  | wr (reg : HostReg) (value : Int)
  | rd (reg : HostReg)
  | wait
deriving DecidableEq, Repr

end Sys2Proof
end

