-- ==== Sys2Proof/WellFormed.lean ====
section
/-! DEFINITION. What makes a command word's fields well formed (30_encoding.md R82, R89) and what the
assembler accepts of a line's operands (R91). Every term of `Instr` is well formed: its fields have
exactly the widths of R81, and `Instr.fields` leaves every unused field 0. -/

namespace Sys2Proof

/-- The fields of an operation: those R81 does not give it are 0 (R82). -/
def Instr.fields : Instr → Fields
  | .configure orient model => ⟨0, model, 0, orient, 0, 0x1⟩
  | .resolve => ⟨0, 0, 0, 0, 0, 0x2⟩
  | .setPixel on => ⟨0, 0, 0, 0, BitVec.ofBool on, 0x3⟩
  | .fill on => ⟨0, 0, 0, 0, BitVec.ofBool on, 0x4⟩
  | .init => ⟨0, 0, 0, 0, 0, 0x5⟩
  | .flush => ⟨0, 0, 0, 0, 0, 0x6⟩
  | .sleep => ⟨0, 0, 0, 0, 0, 0x7⟩
  | .wake => ⟨0, 0, 0, 0, 0, 0x8⟩
  | .lowPower => ⟨0, 0, 0, 0, 0, 0x9⟩
  | .highPower => ⟨0, 0, 0, 0, 0, 0xA⟩

/-- R83: the OP values that name an operation, 0x1 to 0xA. -/
def Fields.opAssigned (x : Fields) : Bool :=
  decide (1 ≤ x.op.toNat) && decide (x.op.toNat ≤ 10)

/-- "used by" of R81 for F: SET_PIXEL and FILL. -/
def Fields.usesF (x : Fields) : Bool :=
  x.op == 0x3 || x.op == 0x4

/-- "used by" of R81 for OR and MODEL: CONFIGURE. -/
def Fields.usesPanel (x : Fields) : Bool :=
  x.op == 0x1

/-- The field-use rule R82: the reserved bits are 0, and so is each field the operation does not use. -/
def Fields.fieldUseOk (x : Fields) : Bool :=
  x.high == 0 && x.bit7 == 0 && (x.usesF || x.f == 0) && (x.usesPanel || x.orient == 0) &&
    (x.usesPanel || x.model == 0)

/-- Not a reserved encoding in the sense of R89. -/
def Fields.wellFormed (x : Fields) : Bool :=
  x.opAssigned && x.fieldUseOk

/-- An operation is well formed when the fields it is encoded in are. -/
def Instr.wellFormed (i : Instr) : Bool :=
  i.fields.wellFormed

/-- R91: w and h lie in [0, 65535], o in [0, 3], m in [0, 255]. -/
def asmGeometryOk (w h o m : Int) : Bool :=
  decide (0 ≤ w ∧ w ≤ 65535) && decide (0 ≤ h ∧ h ≤ 65535) && decide (0 ≤ o ∧ o ≤ 3) &&
    decide (0 ≤ m ∧ m ≤ 255)

/-- R91: x and y lie in [-2^31, 2^31 - 1]. -/
def asmCoordsOk (x y : Int) : Bool :=
  decide (-2147483648 ≤ x ∧ x ≤ 2147483647) && decide (-2147483648 ≤ y ∧ y ≤ 2147483647)

/-- R90: `on` is 1 or 0. -/
def asmOnOk (on : Int) : Bool :=
  on == 0 || on == 1

/-- What the assembler accepts of a line (R90, R91); a register value fits 32 bits. -/
def AsmLine.wellFormed : AsmLine → Bool
  | .configure w h o m => asmGeometryOk w h o m
  | .resolve x y => asmCoordsOk x y
  | .setpx x y on => asmCoordsOk x y && asmOnOk on
  | .fill on => asmOnOk on
  | .init => true
  | .flush => true
  | .sleep => true
  | .wake => true
  | .lowpwr => true
  | .highpwr => true
  | .plot x y => asmCoordsOk x y
  | .erase x y => asmCoordsOk x y
  | .clear => true
  | .blacken => true
  | .setup w h o m => asmGeometryOk w h o m
  | .wr _ v => decide (0 ≤ v ∧ v ≤ 4294967295)
  | .rd _ => true
  | .wait => true

end Sys2Proof
end

