-- ==== Sys2Proof/Decode.lean ====
section
/-! DEFINITION. The decoder of 30_encoding.md R87 over the match and mask table of R84, total on every
32-bit word, and after it the encoder over the field layout of R81. -/

namespace Sys2Proof

/-! ### Decode -/

/-- One row of R84: match, mask, and the operation built from the free fields of the word. -/
structure Row where
  pattern : Word
  mask : Word
  build : Word → Instr

/-- OP = c[3:0] (R81). -/
def opField (c : Word) : BitVec 4 := c.extractLsb' 0 4

/-- `on = c[4]` (R85). -/
def onField (c : Word) : Bool := c.getLsbD 4

/-- `orient = c[6:5]` (R85). -/
def orientField (c : Word) : BitVec 2 := c.extractLsb' 5 2

/-- `model = c[15:8]` (R85). -/
def modelField (c : Word) : Byte := c.extractLsb' 8 8

/-- The match and mask table of R84, in its order. -/
def opcodeRows : List Row :=
  [ ⟨0x00000001, 0xFFFF009F, fun c => .configure (orientField c) (modelField c)⟩,
    ⟨0x00000002, 0xFFFFFFFF, fun _ => .resolve⟩,
    ⟨0x00000003, 0xFFFFFFEF, fun c => .setPixel (onField c)⟩,
    ⟨0x00000004, 0xFFFFFFEF, fun c => .fill (onField c)⟩,
    ⟨0x00000005, 0xFFFFFFFF, fun _ => .init⟩,
    ⟨0x00000006, 0xFFFFFFFF, fun _ => .flush⟩,
    ⟨0x00000007, 0xFFFFFFFF, fun _ => .sleep⟩,
    ⟨0x00000008, 0xFFFFFFFF, fun _ => .wake⟩,
    ⟨0x00000009, 0xFFFFFFFF, fun _ => .lowPower⟩,
    ⟨0x0000000A, 0xFFFFFFFF, fun _ => .highPower⟩ ]

/-- R87: "the row of rule R84 with match[3:0] == op". -/
def rowOf (op : BitVec 4) : Option Row :=
  opcodeRows.find? fun r => opField r.pattern == op

/-- The decode procedure of R87. -/
def decode (c : Word) : Except RefusalReason Instr :=
  match rowOf (opField c) with
  | none => .error .reservedOpcode
  | some r => if c &&& r.mask = r.pattern then .ok (r.build c) else .error .reservedField

/-- The command word whose bits, numbered as the opcode table numbers them, are `w`: one word of 32
bits, the bits above `nbits` zero (R80). -/
def tableWord (nbits w : Nat) : Word := BitVec.ofNat 32 (w % 2 ^ nbits)

/-- What the decoder reads from the word `tableWord nbits w`. -/
def decodeTableWord (nbits w : Nat) : Option Instr :=
  match decode (tableWord nbits w) with
  | .ok i => some i
  | .error _ => none

/-! ### Encode -/

/-- The fields of a command word (R81). -/
def fieldsOf (c : Word) : Fields :=
  { high := c.extractLsb' 16 16
    model := c.extractLsb' 8 8
    bit7 := c.extractLsb' 7 1
    orient := c.extractLsb' 5 2
    f := c.extractLsb' 4 1
    op := c.extractLsb' 0 4 }

/-- The command word of the fields, `high MODEL bit7 OR F OP`, most significant bit first (R81). -/
def Fields.word (x : Fields) : Word :=
  (x.high ++ x.model ++ x.bit7 ++ x.orient ++ x.f ++ x.op).setWidth 32

/-- The command word of an operation. -/
def encode (i : Instr) : Word := i.fields.word

end Sys2Proof
end

