-- ==== Sys2Proof/Config.lean ====
section
/-! DEFINITION. What is fixed for this hardware and what the spec leaves open (00_scope.md R5, R6):
the parameters with a value, the OPEN parameters, and the two draws. An OPEN parameter and a draw is
an uninterpreted constant: nothing can be proved of its value, so a claim holds for every value. -/

namespace Sys2Proof

/-- The address window of a panel model, P_WINDOW(m) of R5. -/
structure Window where
  colStart : Byte
  colEnd : Byte
  rowStart : Byte
  rowEnd : Byte
deriving DecidableEq, Repr, Inhabited

/-- One entry of a bring-up table, P_BRINGUP(m) of R5. -/
structure BringUpEntry where
  cmd : Byte
  data : List Byte
  delayMs : Nat
deriving DecidableEq, Repr, Inhabited

/-- The OPEN parameters of R5, gathered: "The model takes the following parameters as arguments". -/
structure Params where
  models : List Byte
  window : Byte → Window
  bringUp : Byte → List BringUpEntry
  hasRst : Bool
  postBringUpMs : Nat
  opSlpin : Byte
  opSlpout : Byte
  opDispon : Byte
  opCaset : Byte
  opRaset : Byte
  opRamwr : Byte
  opHpm : Byte
  opLpm : Byte

namespace Config

/-! ### Parameters with a value (R5) -/

/-- P_MIN_DIM. -/
def minDim : Nat := 8
/-- P_MAX_DIM. -/
def maxDim : Nat := 65535
/-- P_OFFSET_BITS. -/
def offsetBits : Nat := 16
/-- P_RST_T1_MS. -/
def rstT1Ms : Nat := 50
/-- P_RST_T2_MS. -/
def rstT2Ms : Nat := 20
/-- P_RST_T3_MS. -/
def rstT3Ms : Nat := 50
/-- P_SLPOUT_MIN_MS. -/
def slpoutMinMs : Nat := 200
/-- P_WAKE_MS. -/
def wakeMs : Nat := 120

/-! ### OPEN parameters (R5), log entry 10 -/

/-- One id of P_MODELS: the set is non-empty. -/
opaque firstModel : Byte
/-- The other ids of P_MODELS. -/
opaque otherModels : List Byte
/-- P_WINDOW. -/
opaque panelWindow : Byte → Window
/-- P_BRINGUP before the constraint of R166 is imposed (log entry 11). -/
opaque rawBringUp : Byte → List BringUpEntry
/-- P_HAS_RST. -/
opaque hasRst : Bool
/-- P_POST_BRINGUP_MS. -/
opaque postBringUpMs : Nat
/-- P_OP_SLPIN. -/
opaque opSlpin : Byte
/-- P_OP_SLPOUT. -/
opaque opSlpout : Byte
/-- P_OP_DISPON. -/
opaque opDispon : Byte
/-- P_OP_CASET. -/
opaque opCaset : Byte
/-- P_OP_RASET. -/
opaque opRaset : Byte
/-- P_OP_RAMWR. -/
opaque opRamwr : Byte
/-- P_OP_HPM. -/
opaque opHpm : Byte
/-- P_OP_LPM. -/
opaque opLpm : Byte

/-! ### Draws (R6) and the one free value of a host read -/

/-- The draw `alloc_ok` of R6 and R112, at the draw numbered by the argument (log entry 8). -/
opaque allocOk : Nat → Bool
/-- The draw `fb_init` of R6 and R36: the draw's number, then the framebuffer address (log entry 9). -/
opaque fbInit : Nat → Nat → Byte
/-- What a host read of ARG0 (first argument 0) or ARG1 (1) returns while nothing has written that
register: the spec gives no value (log entry 7). The second argument is the count of block
resets. -/
opaque unwrittenArg : Nat → Nat → Word

/-! ### The constraint on P_BRINGUP -/

/-- R166 (a): an entry that leaves sleep and waits at least P_SLPOUT_MIN_MS. -/
def hasSlpout (slpout : Byte) (t : List BringUpEntry) : Bool :=
  t.any fun e => e.cmd == slpout && e.data == [] && decide (slpoutMinMs ≤ e.delayMs)

/-- R166 (b): no entry with cmd = P_OP_SLPIN follows the last P_OP_SLPOUT entry. -/
def staysAwake (slpin slpout : Byte) : List BringUpEntry → Bool
  | [] => true
  | e :: t =>
    staysAwake slpin slpout t &&
      (e.cmd != slpout || t.any (fun e' => e'.cmd == slpout) || t.all fun e' => e'.cmd != slpin)

/-- R166 (c): both halves of the address window are set. -/
def setsWindow (caset raset : Byte) (w : Window) (t : List BringUpEntry) : Bool :=
  (t.any fun e => e.cmd == caset && e.data == [w.colStart, w.colEnd]) &&
    t.any fun e => e.cmd == raset && e.data == [w.rowStart, w.rowEnd]

end Config

/-- R166 for the table `t` and the window `w` of one model. Part (d) holds by the type. -/
def Params.tableOk (p : Params) (w : Window) (t : List BringUpEntry) : Bool :=
  Config.hasSlpout p.opSlpout t && Config.staysAwake p.opSlpin p.opSlpout t &&
    Config.setsWindow p.opCaset p.opRaset w t

/-- The constraints of R5 on a choice of the OPEN parameters: a non-empty P_MODELS, and R166. -/
def Params.Valid (p : Params) : Prop :=
  p.models ≠ [] ∧ ∀ m ∈ p.models, p.tableOk (p.window m) (p.bringUp m) = true

/-- A smallest bring-up table that meets R166 whatever the command bytes are. -/
def Params.minimalTable (p : Params) (w : Window) : List BringUpEntry :=
  [⟨p.opCaset, [w.colStart, w.colEnd], 0⟩, ⟨p.opRaset, [w.rowStart, w.rowEnd], 0⟩,
    ⟨p.opSlpout, [], Config.slpoutMinMs⟩]

/-- The parameters with R166 imposed: a table that meets it is kept as it is, so every table that
R166 admits is a possible one (log entry 11). -/
def Params.constrained (p : Params) : Params :=
  { p with
    bringUp := fun m =>
      if p.tableOk (p.window m) (p.bringUp m) then p.bringUp m else p.minimalTable (p.window m) }

/-- The parameters of this hardware. -/
def Config.params : Params :=
  Params.constrained
    { models := Config.firstModel :: Config.otherModels
      window := Config.panelWindow
      bringUp := Config.rawBringUp
      hasRst := Config.hasRst
      postBringUpMs := Config.postBringUpMs
      opSlpin := Config.opSlpin
      opSlpout := Config.opSlpout
      opDispon := Config.opDispon
      opCaset := Config.opCaset
      opRaset := Config.opRaset
      opRamwr := Config.opRamwr
      opHpm := Config.opHpm
      opLpm := Config.opLpm }

end Sys2Proof
end

