-- ==== Sys2Proof/Machine/State.lean ====
section
/-! DEFINITION. The state of the block: everything 10_state.md R20 gives it, the sequencer of R23, and
the model's own record of the outside (the host's inputs, the values its reads returned, the reasons of
refusals, the draw counter). All of it is plain data. -/

namespace Sys2Proof.Machine

/-- STATUS.STATE of R25. -/
inductive BlockState where
  | unconfigured
  | configured
  | ready
  | failed
deriving DecidableEq, Repr

/-- STATUS.ERR of R24 and R26; the value 3 is never produced. -/
inductive ErrKind where
  | noError
  | configurationError
  | allocationFailure
deriving DecidableEq, Repr

/-- STATUS.CAUSE of R24 and R27; the values 6 and 7 are never produced. -/
inductive Cause where
  | noCause
  | model
  | orient
  | range
  | divisibility
  | size
deriving DecidableEq, Repr

/-- The STATUS register by its fields (R24). No field is writable by the host; the 32-bit value the
host reads is `statusWord`. -/
structure Status where
  state : BlockState
  busy : Bool
  err : ErrKind
  cause : Cause
deriving DecidableEq, Repr

/-- The CoordinateMap of R35: OffTab and MaskTab, entry i at position i. -/
structure CoordinateMap where
  offTab : List (BitVec 16)
  maskTab : List (BitVec 8)
deriving DecidableEq, Repr

/-- The framebuffer FB of R36 as cells (address, byte), addresses strictly rising. An address with no
cell does not exist: it lies outside [0, bufferSize), or FB is absent (log entry 17). -/
structure Memory where
  cells : List Host.Cell
deriving DecidableEq, Repr

/-- Levels of the CS line (R37). -/
inductive CsLevel where
  | asserted
  | deasserted
deriving DecidableEq, Repr

/-- The two levels the block drives on DC (R37, R160). -/
inductive DcLevel where
  | cmd
  | data
deriving DecidableEq, Repr

/-- The two levels the block drives on RST (R37, R160). -/
inductive RstLevel where
  | asserted
  | deasserted
deriving DecidableEq, Repr

/-- The output lines of R37. `none` says undriven, its level unknown; a block without the reset line
(P_HAS_RST false) never drives RST (log entry 12). -/
structure Lines where
  cs : CsLevel
  dc : Option DcLevel
  rst : Option RstLevel
deriving DecidableEq, Repr

/-- Wire events of R160. -/
inductive Event where
  | dc (level : DcLevel)
  | csOn
  | tx (b : Byte)
  | csOff
  | rst (level : RstLevel)
  | delay (ms : Nat)
deriving DecidableEq, Repr

/-- The closed list of fault reasons of R211. -/
inductive FaultReason where
  | unwrittenRegister
deriving DecidableEq, Repr

/-- The hazard marks of R242. -/
inductive Hazard where
  | flushWhileAsleep
deriving DecidableEq, Repr

/-- A value that a host read returned (R42), with the offset it was read at. -/
structure HostReply where
  offset : BitVec 6
  value : Word
deriving DecidableEq, Repr

/-- The machine. -/
structure State where
  /-- ARG0, ARG1, RES0, RES1 (R21) -/
  arg0 : Word
  arg1 : Word
  res0 : Word
  res1 : Word
  /-- the written-flags (R40) -/
  arg0Written : Bool
  arg1Written : Bool
  res0Written : Bool
  res1Written : Bool
  /-- STATUS (R24) -/
  status : Status
  /-- GEOM, CFG, BUFSIZE, WINDOW (R29 to R32) -/
  geom : Word
  cfg : Word
  bufsize : Word
  window : Word
  /-- OffTab and MaskTab (R35); `none` while they are not allocated -/
  coordMap : Option CoordinateMap
  /-- FB (R36); nothing listed while it is not allocated -/
  fb : Memory
  /-- CS, DC, RST (R37) -/
  lines : Lines
  /-- the wire trace (R38), oldest event first -/
  trace : List Event
  /-- PANEL_ASLEEP, REFUSED, FAULTS, HAZARDS (R39); the two sets as lists with no repeats -/
  panelAsleep : Bool
  refused : Bool
  faults : List FaultReason
  hazards : List Hazard
  /-- the sequencer (R23): the command word of the operation that runs -/
  pending : Option Word
  /-- the model's own: host inputs not yet served (log entry 2) -/
  hostIn : List HostInput
  /-- the model's own: values the host's reads returned, oldest first (log entry 2) -/
  hostOut : List HostReply
  /-- the model's own: reasons of the refusals since reset, oldest first (log entry 4) -/
  refusalLog : List RefusalReason
  /-- the model's own: how many draws have been taken (log entry 8) -/
  draws : Nat
  /-- the model's own: how many block resets there have been (log entry 7) -/
  resets : Nat
deriving DecidableEq, Repr

/-- The reset values of 70_reset_and_hazards.md R231. ARG0, ARG1, RES0 and RES1 are unwritten; the
value stored behind a false written-flag is never used (log entry 6). -/
def State.reset : State where
  arg0 := 0
  arg1 := 0
  res0 := 0
  res1 := 0
  arg0Written := false
  arg1Written := false
  res0Written := false
  res1Written := false
  status := ⟨.unconfigured, false, .noError, .noCause⟩
  geom := 0
  cfg := 0
  bufsize := 0
  window := 0
  coordMap := none
  fb := ⟨[]⟩
  lines := ⟨.deasserted, none, none⟩
  trace := []
  panelAsleep := true
  refused := false
  faults := []
  hazards := []
  pending := none
  hostIn := []
  hostOut := []
  refusalLog := []
  draws := 0
  resets := 0

/-- Where the model stops because a state holds no such cell. Neither can happen in a state that meets
`Inv` of Safety.lean: R61 says that FB is never addressed out of range. Both are safe (log entry 16). -/
inductive Fault where
  /-- Raised by SET_PIXEL, FILL and FLUSH: the FB address has no byte. Safe. -/
  | noSuchFbByte
  /-- Raised by RESOLVE and SET_PIXEL: the tables have no such entry, or are absent. Safe. -/
  | noSuchTableEntry
deriving DecidableEq, Repr

/-- Stops by name. What the spec calls a refusal (R210) is no stop: it sets REFUSED and the machine
goes on. -/
inductive Refusal where
  /-- Raised by `exec` for an instruction that has no meaning yet; no arm does. Safe. -/
  | notModelled (mnemonic : String)
deriving DecidableEq, Repr

end Sys2Proof.Machine
end

