-- ==== Sys2Proof/Machine/Operands.lean ====
section
/-! DEFINITION. Operand assembly (30_encoding.md R85), the configured geometry as operations read it
(10_state.md R29 to R32), and the two mappings of 40_geometry_resolver.md R121 and R122. -/

namespace Sys2Proof.Machine

/-! ### Operands of an operation (R85) -/

/-- `width = zext(x[ARG0][15:0])`. -/
def widthOperand (arg0 : Word) : Nat := (arg0.extractLsb' 0 16).toNat

/-- `height = zext(x[ARG0][31:16])`. -/
def heightOperand (arg0 : Word) : Nat := (arg0.extractLsb' 16 16).toNat

/-- `sint(v)`: the 32 bits of v as two's complement. -/
def sint (v : Word) : Int := v.toInt

/-! ### The configured geometry -/

/-- WIDTH = GEOM[15:0] (R29). -/
def State.width (s : State) : Nat := (s.geom.extractLsb' 0 16).toNat

/-- HEIGHT = GEOM[31:16] (R29). -/
def State.height (s : State) : Nat := (s.geom.extractLsb' 16 16).toNat

/-- ORIENT = CFG[1:0] (R30). -/
def State.orient (s : State) : BitVec 2 := s.cfg.extractLsb' 0 2

/-- MODEL = CFG[15:8] (R30). -/
def State.model (s : State) : Byte := s.cfg.extractLsb' 8 8

/-- The x operand of RESOLVE and SET_PIXEL. -/
def State.x (s : State) : Int := sint s.arg0

/-- The y operand of RESOLVE and SET_PIXEL. -/
def State.y (s : State) : Int := sint s.arg1

/-- The range test of 41_framebuffer.md R141, on mathematical integers. -/
def inRange (width height : Nat) (x y : Int) : Bool :=
  decide (0 ≤ x ∧ x < width ∧ 0 ≤ y ∧ y < height)

/-- The linearized index `x*height + y` (R11). -/
def linearIndex (height : Nat) (x y : Int) : Nat := x.toNat * height + y.toNat

/-! ### Values the configured registers take (R114) -/

/-- bufferSize = `width*height/8` (R11). -/
def bufferSize (width height : Nat) : Nat := width * height / 8

/-- `{height[15:0], width[15:0]}`. -/
def geomWord (width height : Nat) : Word :=
  (BitVec.ofNat 16 height ++ BitVec.ofNat 16 width).setWidth 32

/-- `{16'b0, model[7:0], 6'b0, orient[1:0]}`. -/
def cfgWord (orient : BitVec 2) (model : Byte) : Word :=
  (0#16 ++ model ++ 0#6 ++ orient).setWidth 32

/-- `{rowEnd, rowStart, colEnd, colStart}`. -/
def windowWord (w : Window) : Word :=
  (w.rowEnd ++ w.rowStart ++ w.colEnd ++ w.colStart).setWidth 32

/-- WINDOW by its bytes (R32). -/
def windowOf (v : Word) : Window :=
  { colStart := v.extractLsb' 0 8
    colEnd := v.extractLsb' 8 8
    rowStart := v.extractLsb' 16 8
    rowEnd := v.extractLsb' 24 8 }

/-! ### The two mappings -/

/-- Orientation A: (byte offset, bit) of R121. Natural subtraction is exact for `y < height`. -/
def mapA (_width height x y : Nat) : Nat × Nat :=
  let ir := height - 1 - y
  ((x / 2) * (height / 4) + ir / 4, 7 - ((ir % 4) * 2 + x % 2))

/-- Orientation B: (byte offset, bit) of R122. -/
def mapB (width _height x y : Nat) : Nat × Nat :=
  ((y / 2) * (width / 4) + x / 4, 7 - ((y % 2) * 4 + x % 4))

/-- `(orient == 0) ? mapA : mapB` of R113. -/
def mapPixel (orient : BitVec 2) (width height x y : Nat) : Nat × Nat :=
  if orient = 0 then mapA width height x y else mapB width height x y

/-- `1 << bit` as a u8 (R113). -/
def bitMask (bit : Nat) : Byte := BitVec.ofNat 8 (2 ^ bit)

/-- The table build of R113: x outside, y inside, so that entry `x*height + y` is at its position. -/
def buildTables (width height : Nat) (orient : BitVec 2) : CoordinateMap :=
  let pixels := (List.range width).flatMap fun x => (List.range height).map fun y =>
    mapPixel orient width height x y
  { offTab := pixels.map fun p => BitVec.ofNat 16 p.1
    maskTab := pixels.map fun p => bitMask p.2 }

/-- The validation of R111: the cause of the first check that fails, in the order MODEL, ORIENT,
RANGE, DIVISIBILITY, SIZE. -/
def validate (p : Params) (width height : Nat) (orient : BitVec 2) (model : Byte) : Option Cause :=
  if model ∉ p.models then some .model
  else if orient ≠ 0 ∧ orient ≠ 1 then some .orient
  else if ¬(Config.minDim ≤ width ∧ width ≤ Config.maxDim) ∨
      ¬(Config.minDim ≤ height ∧ height ≤ Config.maxDim) then some .range
  else if orient = 0 ∧ (width % 2 ≠ 0 ∨ height % 4 ≠ 0) then some .divisibility
  else if orient = 1 ∧ (width % 4 ≠ 0 ∨ height % 2 ≠ 0) then some .divisibility
  else if width * height / 8 > 2 ^ Config.offsetBits then some .size
  else none

end Sys2Proof.Machine
end

