-- ==== Sys2Proof/Machine/Flags.lean ====
section
/-! DEFINITION. The STATUS word (10_state.md R24), the states in which an operation is accepted
(30_encoding.md R88) and the operand registers it reads (R86). -/

namespace Sys2Proof.Machine

/-- STATE as its two bits (R24). -/
def stateCode : BlockState → BitVec 2
  | .unconfigured => 0
  | .configured => 1
  | .ready => 2
  | .failed => 3

/-- ERR as its two bits (R24). -/
def errCode : ErrKind → BitVec 2
  | .noError => 0
  | .configurationError => 1
  | .allocationFailure => 2

/-- CAUSE as its three bits (R24, R27). -/
def causeCode : Cause → BitVec 3
  | .noCause => 0
  | .model => 1
  | .orient => 2
  | .range => 3
  | .divisibility => 4
  | .size => 5

/-- The 32-bit value of STATUS: reserved [31:8], CAUSE [7:5], ERR [4:3], BUSY [2], STATE [1:0]. -/
def statusWord (x : Status) : Word :=
  (0#24 ++ causeCode x.cause ++ errCode x.err ++ BitVec.ofBool x.busy ++
    stateCode x.state).setWidth 32

/-- The acceptance table of R88. -/
def acceptedIn : Instr → BlockState → Bool
  | .configure _ _, b => b == .unconfigured
  | .resolve, b => b == .configured || b == .ready
  | .setPixel _, b => b == .configured || b == .ready
  | .fill _, b => b == .configured || b == .ready
  | .init, b => b == .configured
  | .flush, b => b == .ready
  | .sleep, b => b == .ready
  | .wake, b => b == .ready
  | .lowPower, b => b == .ready
  | .highPower, b => b == .ready

/-- The operand registers that the operation reads have all been written (R86, R40). -/
def operandsWritten : Instr → State → Bool
  | .configure _ _, s => s.arg0Written
  | .resolve, s => s.arg0Written && s.arg1Written
  | .setPixel _, s => s.arg0Written && s.arg1Written
  | .fill _, _ => true
  | .init, _ => true
  | .flush, _ => true
  | .sleep, _ => true
  | .wake, _ => true
  | .lowPower, _ => true
  | .highPower, _ => true

end Sys2Proof.Machine
end

