-- ==== Sys2Proof/Machine/Ops.lean ====
section
/-! DEFINITION. The named operations over the state that the meanings share: framebuffer and table
access, the wire, the end of an operation, refusals and faults as marks, the two checks every operation
begins with, and the error entry of 60_exceptions.md R203. -/

namespace Sys2Proof.Machine

/-! ### Framebuffer and tables -/

/-- The canonical form: addresses strictly rising. No cell can equal what an unlisted address reads
as, because an unlisted address has no byte (log entry 17). -/
def Memory.wf (m : Memory) : Bool :=
  decide (m.cells.Pairwise fun c c' => c.1 < c'.1)

/-- `MemRead(addr, 1)` (R9): `none` where there is no such byte. -/
def Memory.read (m : Memory) (addr : Nat) : Option Byte :=
  m.cells.lookup addr

/-- `MemWrite(addr, 1, v)` (R9): `none` where there is no such byte. -/
def Memory.write (m : Memory) (addr : Nat) (v : Byte) : Option Memory :=
  if (m.read addr).isSome then
    some ⟨m.cells.map fun c => if c.1 = addr then (c.1, v) else c⟩
  else none

/-- FB as CONFIGURE creates it: `size` bytes, byte i holding `init i` (R36, R114). -/
def Memory.create (size : Nat) (init : Nat → Byte) : Memory :=
  ⟨(List.range size).map fun i => (i, init i)⟩

/-- The sequential store of R94: `v` at each address of [0, size), ascending. -/
def Memory.fill (m : Memory) (size : Nat) (v : Byte) : Option Memory :=
  (List.range size).foldlM (fun m' i => m'.write i v) m

/-- The sequential load of R94: the bytes at [0, size), ascending. -/
def Memory.readAll (m : Memory) (size : Nat) : Option (List Byte) :=
  (List.range size).mapM fun i => m.read i

/-- Entry i of OffTab and MaskTab (R35): `none` where there is no such entry. -/
def State.tableEntry (s : State) (i : Nat) : Option (BitVec 16 × Byte) :=
  match s.coordMap with
  | none => none
  | some t =>
    match t.offTab[i]?, t.maskTab[i]? with
    | some off, some mask => some (off, mask)
    | _, _ => none

/-! ### The wire (42_transport_writer.md R160) -/

/-- The level an event leaves each line at. -/
def Lines.after (l : Lines) : Event → Lines
  | .dc level => { l with dc := some level }
  | .csOn => { l with cs := .asserted }
  | .tx _ => l
  | .csOff => { l with cs := .deasserted }
  | .rst level => { l with rst := some level }
  | .delay _ => l

/-- `Emit(e)` for each event in order: the trace grows and the lines follow. -/
def State.emit (s : State) (es : List Event) : State :=
  { s with trace := s.trace ++ es, lines := es.foldl Lines.after s.lines }

/-- SendCommand (R162): one transaction. -/
def sendCommand (cmd : Byte) (data : List Byte) : List Event :=
  [.dc .cmd, .csOn, .tx cmd] ++ (if data = [] then [] else .dc .data :: data.map .tx) ++ [.csOff]

/-- `Delay(ms)`, emitted only with ms > 0 (R163). -/
def delayEvent (ms : Nat) : List Event :=
  if ms > 0 then [.delay ms] else []

/-! ### The end of an operation, and the marks -/

/-- BUSY returns to 0 (R28) and the sequencer is empty again (R23). -/
def State.endOp (s : State) : State :=
  { s with status := { s.status with busy := false }, pending := none }

/-- `refuse(reason)` of R210: the sticky REFUSED mark, with the reason kept in the model's own log. -/
def State.markRefused (s : State) (r : RefusalReason) : State :=
  { s with refused := true, refusalLog := s.refusalLog ++ [r] }

/-- `fault(reason)` of R211: the reason joins the sticky set FAULTS. -/
def State.addFault (s : State) (f : FaultReason) : State :=
  { s with faults := if f ∈ s.faults then s.faults else s.faults ++ [f] }

/-- A hazard mark joins the sticky set HAZARDS (R39, R242). -/
def State.addHazard (s : State) (h : Hazard) : State :=
  { s with hazards := if h ∈ s.hazards then s.hazards else s.hazards ++ [h] }

/-- An operation that is refused: it ends with the mark and no other effect (R87, R88, R210). -/
def refuseOp (r : RefusalReason) (s : State) : State :=
  (s.markRefused r).endOp

/-- An operation that faults: it ends with the mark and does nothing further (R40, R211). -/
def faultOp (f : FaultReason) (s : State) : State :=
  (s.addFault f).endOp

/-- The two checks every operation begins with, in the order of R206: the accepted states of R88, then
the written operand registers of R86; `body` is the operation itself. -/
def guarded (i : Instr) (s : State) (body : Host.Outcome State Fault Refusal) :
    Host.Outcome State Fault Refusal :=
  if acceptedIn i s.status.state = false then .next (refuseOp .wrongState s)
  else if operandsWritten i s = false then .next (faultOp .unwrittenRegister s)
  else body

/-! ### Error entry (the only exception the block has) -/

/-- The two errors of R200. -/
inductive BlockError where
  | configurationError (cause : Cause)
  | allocationFailure
deriving DecidableEq, Repr

/-- ERR of an error (R203). -/
def BlockError.err : BlockError → ErrKind
  | .configurationError _ => .configurationError
  | .allocationFailure => .allocationFailure

/-- CAUSE of an error (R203). -/
def BlockError.cause : BlockError → Cause
  | .configurationError c => c
  | .allocationFailure => .noCause

/-- `raise E(cause)` of R203: ERR, CAUSE, STATE FAILED, BUSY 0. Nothing else changes, nothing is saved,
and there is no handler and no return (R203, R205). -/
def raiseError (e : BlockError) (s : State) : State :=
  ({ s with status := { s.status with state := .failed, err := e.err, cause := e.cause } } : State).endOp

/-! ### Block reset -/

/-- Block reset (70_reset_and_hazards.md R230): every piece of the block's state takes its value of
R231. The model's own record of the outside goes on: the inputs still to come, the values already
read, the draws taken, and the count of resets, moved on so that an unwritten ARG register holds a new
free value (log entry 18). -/
def blockReset (s : State) : State :=
  { State.reset with
    hostIn := s.hostIn, hostOut := s.hostOut, draws := s.draws, resets := s.resets + 1 }

end Sys2Proof.Machine
end

