-- ==== Sys2Proof/Machine/HostPort.lean ====
section
/-! DEFINITION. The host register port: the register map of 10_state.md R34, host reads and writes
(R42, R43, 20_memory.md R65, R66), and which input or operation the block serves next. -/

namespace Sys2Proof.Machine

/-- The offset of a register (R34). -/
def regOffset : HostReg → BitVec 6
  | .cmd => 0x00
  | .arg0 => 0x04
  | .arg1 => 0x08
  | .res0 => 0x0C
  | .res1 => 0x10
  | .status => 0x14
  | .geom => 0x18
  | .cfg => 0x1C
  | .bufsize => 0x20
  | .window => 0x24

/-- The registers of R34, in offset order. -/
def allRegs : List HostReg :=
  [.cmd, .arg0, .arg1, .res0, .res1, .status, .geom, .cfg, .bufsize, .window]

/-- The register that an access of this offset and width reaches: an aligned 32-bit access only (R65),
and none at a reserved offset (R66). -/
def regAt (offset : BitVec 6) (bits : Nat) : Option HostReg :=
  if bits = 32 ∧ offset.toNat % 4 = 0 then allRegs.find? fun r => regOffset r == offset else none

/-- What a host read of a register returns (R42). -/
inductive ReadResult where
  | value (v : Word)
  /-- its written-flag is false (R40) -/
  | unwritten
  /-- not readable: CMD (R33) -/
  | noRead
deriving DecidableEq, Repr

/-- The value of each register to a host read (R42). An ARG register that nothing has written reads as
a free value: R40 names no fault for it and no rule gives the value (log entry 7). It is one value from a
block reset to the next, because the register keeps its value until the host writes it (R21). -/
def readReg (s : State) : HostReg → ReadResult
  | .cmd => .noRead
  | .arg0 => .value (if s.arg0Written then s.arg0 else Config.unwrittenArg 0 s.resets)
  | .arg1 => .value (if s.arg1Written then s.arg1 else Config.unwrittenArg 1 s.resets)
  | .res0 => if s.res0Written then .value s.res0 else .unwritten
  | .res1 => if s.res1Written then .value s.res1 else .unwritten
  | .status => .value (statusWord s.status)
  | .geom => .value s.geom
  | .cfg => .value s.cfg
  | .bufsize => .value s.bufsize
  | .window => .value s.window

/-- The value of a read reaches the host. -/
def State.reply (s : State) (offset : BitVec 6) (v : Word) : State :=
  { s with hostOut := s.hostOut ++ [⟨offset, v⟩] }

/-- A host read with BUSY = 0, or of STATUS (R42). -/
def hostRead (offset : BitVec 6) (bits : Nat) (s : State) : State :=
  match regAt offset bits with
  | none => s.markRefused .badHostAccess
  | some r =>
    match readReg s r with
    | .value v => s.reply offset v
    | .unwritten => s.addFault .unwrittenRegister
    | .noRead => s.markRefused .badHostAccess

/-- A write of ARG0: the value and its written-flag (R43). -/
def State.writeArg0 (s : State) (v : Word) : State := { s with arg0 := v, arg0Written := true }

/-- A write of ARG1: the value and its written-flag (R43). -/
def State.writeArg1 (s : State) (v : Word) : State := { s with arg1 := v, arg1Written := true }

/-- A write of CMD: BUSY goes to 1 and the sequencer holds the word (R33, R28, R23). -/
def State.startOp (s : State) (c : Word) : State :=
  { s with status := { s.status with busy := true }, pending := some c }

/-- A host write with BUSY = 0 (R43). -/
def hostWrite (offset : BitVec 6) (bits : Nat) (v : Word) (s : State) : State :=
  match regAt offset bits with
  | some .cmd => s.startOp v
  | some .arg0 => s.writeArg0 v
  | some .arg1 => s.writeArg1 v
  | _ => s.markRefused .badHostAccess

/-- The access is a read of STATUS that R65 admits, the one access accepted while BUSY = 1 (R28). -/
def isStatusRead : HostAccess → Bool
  | .read offset bits => regAt offset bits == some .status
  | .write _ _ _ => false

/-- One host access (R42, R43): while BUSY = 1 all but a STATUS read is refused (R240). -/
def hostAccess (a : HostAccess) (s : State) : State :=
  if s.status.busy = true ∧ isStatusRead a = false then s.markRefused .busyAccess
  else
    match a with
    | .read offset bits => hostRead offset bits s
    | .write offset bits v => hostWrite offset bits v s

/-- What the block does next. -/
inductive Move where
  /-- an input takes effect, and these inputs remain -/
  | reset (rest : List HostInput)
  | serve (a : HostAccess) (rest : List HostInput)
  /-- the running operation goes to its end (R23) -/
  | run (c : Word)
  /-- nothing runs and the host asks nothing -/
  | idle
deriving DecidableEq, Repr

/-- Which move comes next. A block reset and an access that does not wait come first; otherwise the
running operation ends before the host's next access is served (R28, R240; log entry 3). -/
def nextMove (s : State) : Move :=
  match s.hostIn, s.pending with
  | .blockReset :: rest, _ => .reset rest
  | .during a :: rest, _ => .serve a rest
  | .access _ :: _, some c => .run c
  | [], some c => .run c
  | .access a :: rest, none => .serve a rest
  | [], none => .idle

/-- The state with these inputs left to serve. -/
def State.setInputs (s : State) (rest : List HostInput) : State := { s with hostIn := rest }

/-- Inputs that are served before the running operation ends. -/
def arrivesFirst : HostInput → Bool
  | .access _ => false
  | .during _ => true
  | .blockReset => true

end Sys2Proof.Machine
end

