-- ==== Sys2Proof/Machine/Framebuffer.lean ====
section
/-! DEFINITION. The Framebuffer unit: SET_PIXEL (41_framebuffer.md R140) and FILL (R142). -/

namespace Sys2Proof.Machine

/-- FB is replaced as a whole by the memory an FB access answered. -/
def State.setFb (s : State) (m : Memory) : State := { s with fb := m }

/-- The byte with the pixel's bit cleared (on, black) or set (off, white) (R140, R10). -/
def pixelByte (on : Bool) (b mask : Byte) : Byte :=
  if on then b &&& ~~~mask else b ||| mask

/-- SET_PIXEL (R140): one byte read, modified and written, or nothing out of range (R141). -/
def execSetPixel (on : Bool) (s : State) : Host.Outcome State Fault Refusal :=
  guarded (.setPixel on) s
    (if inRange s.width s.height s.x s.y then
      match s.tableEntry (linearIndex s.height s.x s.y) with
      | none => .fault .noSuchTableEntry
      | some (off, mask) =>
        match s.fb.read off.toNat with
        | none => .fault .noSuchFbByte
        | some b =>
          match s.fb.write off.toNat (pixelByte on b mask) with
          | none => .fault .noSuchFbByte
          | some m => .next (s.setFb m).endOp
     else .next s.endOp)

/-- The byte FILL writes (R142): 0x00 for on, 0xFF for off. -/
def fillByte (on : Bool) : Byte := if on then 0x00 else 0xFF

/-- FILL (R142). -/
def execFill (on : Bool) (s : State) : Host.Outcome State Fault Refusal :=
  guarded (.fill on) s
    (match s.fb.fill s.bufsize.toNat (fillByte on) with
     | none => .fault .noSuchFbByte
     | some m => .next (s.setFb m).endOp)

end Sys2Proof.Machine
end

