-- ==== Sys2Proof/Machine/Geometry.lean ====
section
/-! DEFINITION. The Geometry Resolver: CONFIGURE (40_geometry_resolver.md R115) and RESOLVE (R125). -/

namespace Sys2Proof.Machine

/-- The commit of R114, with FB created holding `fbInit` (R36) and the draws counted. -/
def commitConfigure (p : Params) (fbInit : Nat → Byte) (orient : BitVec 2) (model : Byte)
    (s : State) : State :=
  let width := widthOperand s.arg0
  let height := heightOperand s.arg0
  ({ s with
      geom := geomWord width height
      cfg := cfgWord orient model
      bufsize := BitVec.ofNat 32 (bufferSize width height)
      window := windowWord (p.window model)
      coordMap := some (buildTables width height orient)
      fb := Memory.create (bufferSize width height) fbInit
      status := { s.status with state := .configured }
      draws := s.draws + 1 } : State).endOp

/-- An AllocationFailure: the draw is taken, and the error is raised (R112, R202). -/
def failAllocation (s : State) : State :=
  raiseError .allocationFailure { s with draws := s.draws + 1 }

/-- CONFIGURE over its parameters and draws (R115): the operation after the checks of `guarded`. -/
def configureWith (p : Params) (allocOk : Bool) (fbInit : Nat → Byte) (orient : BitVec 2)
    (model : Byte) (s : State) : Host.Outcome State Fault Refusal :=
  guarded (.configure orient model) s
    (match validate p (widthOperand s.arg0) (heightOperand s.arg0) orient model with
     | some cause => .next (raiseError (.configurationError cause) s)
     | none =>
       if allocOk then .next (commitConfigure p fbInit orient model s)
       else .next (failAllocation s))

/-- CONFIGURE (R115), with the draws alloc_ok and fb_init of R6. -/
def execConfigure (orient : BitVec 2) (model : Byte) (s : State) :
    Host.Outcome State Fault Refusal :=
  configureWith Config.params (Config.allocOk s.draws) (Config.fbInit s.draws) orient model s

/-- RES0 and RES1 take their values, and both are then written (R125). -/
def State.setResults (s : State) (res0 res1 : Word) : State :=
  { s with res0 := res0, res1 := res1, res0Written := true, res1Written := true }

/-- `{1'b1, mask}` zero-extended: VALID in bit 8 above the mask (R125). -/
def validMask (mask : Byte) : Word := (1#1 ++ mask).setWidth 32

/-- RESOLVE (R125). -/
def execResolve (s : State) : Host.Outcome State Fault Refusal :=
  guarded .resolve s
    (if inRange s.width s.height s.x s.y then
      match s.tableEntry (linearIndex s.height s.x s.y) with
      | some (off, mask) => .next (s.setResults (off.setWidth 32) (validMask mask)).endOp
      | none => .fault .noSuchTableEntry
     else .next (s.setResults 0 0).endOp)

end Sys2Proof.Machine
end

