-- ==== Sys2Proof/Machine/Transport.lean ====
section
/-! DEFINITION. The Transport Writer: INIT, FLUSH, SLEEP, WAKE, LOW_POWER and HIGH_POWER
(42_transport_writer.md R164 to R174), each over the parameters of 00_scope.md R5. -/

namespace Sys2Proof.Machine

/-- PANEL_ASLEEP takes a value (ghost, R39). -/
def State.setAsleep (s : State) (b : Bool) : State := { s with panelAsleep := b }

/-- STATUS.STATE becomes READY (R168). -/
def State.setReady (s : State) : State := { s with status := { s.status with state := .ready } }

/-- The reset pulse of R164: nothing where the line is not fitted. -/
def resetPulse (p : Params) : List Event :=
  if p.hasRst then
    [.rst .asserted] ++ delayEvent Config.rstT1Ms ++ [.rst .deasserted] ++
      delayEvent Config.rstT2Ms ++ [.rst .asserted] ++ delayEvent Config.rstT3Ms
  else []

/-- The events of one bring-up entry (R165). -/
def entryEvents (e : BringUpEntry) : List Event :=
  sendCommand e.cmd e.data ++ delayEvent e.delayMs

/-- BringUp(m) of R165: the table verbatim, then the post-bring-up delay. -/
def bringUpEvents (p : Params) (model : Byte) : List Event :=
  (p.bringUp model).flatMap entryEvents ++ delayEvent p.postBringUpMs

/-- INIT over its parameters (R167, R168). -/
def initWith (p : Params) (s : State) : Host.Outcome State Fault Refusal :=
  guarded .init s
    (.next ((s.emit (resetPulse p ++ bringUpEvents p s.model)).setAsleep false).setReady.endOp)

/-- The events of FLUSH for the window and the buffer's bytes (R169, R170). -/
def flushEvents (p : Params) (w : Window) (buffer : List Byte) : List Event :=
  sendCommand p.opHpm [] ++ sendCommand p.opDispon [] ++
    sendCommand p.opCaset [w.colStart, w.colEnd] ++
    sendCommand p.opRaset [w.rowStart, w.rowEnd] ++ sendCommand p.opRamwr buffer

/-- The hazard mark of a FLUSH while the panel is asleep (R242). -/
def State.noteFlush (s : State) : State :=
  if s.panelAsleep then s.addHazard .flushWhileAsleep else s

/-- FLUSH over its parameters (R169). -/
def flushWith (p : Params) (s : State) : Host.Outcome State Fault Refusal :=
  guarded .flush s
    (match s.fb.readAll s.bufsize.toNat with
     | none => .fault .noSuchFbByte
     | some buffer => .next (s.noteFlush.emit (flushEvents p (windowOf s.window) buffer)).endOp)

/-- SLEEP over its parameters (R171). -/
def sleepWith (p : Params) (s : State) : Host.Outcome State Fault Refusal :=
  guarded .sleep s (.next ((s.emit (sendCommand p.opSlpin [])).setAsleep true).endOp)

/-- WAKE over its parameters (R172). -/
def wakeWith (p : Params) (s : State) : Host.Outcome State Fault Refusal :=
  guarded .wake s
    (.next ((s.emit (sendCommand p.opSlpout [] ++ delayEvent Config.wakeMs)).setAsleep false).endOp)

/-- LOW_POWER over its parameters (R173). -/
def lowPowerWith (p : Params) (s : State) : Host.Outcome State Fault Refusal :=
  guarded .lowPower s (.next (s.emit (sendCommand p.opLpm [])).endOp)

/-- HIGH_POWER over its parameters (R174). -/
def highPowerWith (p : Params) (s : State) : Host.Outcome State Fault Refusal :=
  guarded .highPower s (.next (s.emit (sendCommand p.opHpm [])).endOp)

/-- INIT (R167). -/
def execInit (s : State) : Host.Outcome State Fault Refusal := initWith Config.params s

/-- FLUSH (R169). -/
def execFlush (s : State) : Host.Outcome State Fault Refusal := flushWith Config.params s

/-- SLEEP (R171). -/
def execSleep (s : State) : Host.Outcome State Fault Refusal := sleepWith Config.params s

/-- WAKE (R172). -/
def execWake (s : State) : Host.Outcome State Fault Refusal := wakeWith Config.params s

/-- LOW_POWER (R173). -/
def execLowPower (s : State) : Host.Outcome State Fault Refusal := lowPowerWith Config.params s

/-- HIGH_POWER (R174). -/
def execHighPower (s : State) : Host.Outcome State Fault Refusal := highPowerWith Config.params s

end Sys2Proof.Machine
end

