-- ==== Sys2Proof/Machine/Dispatch.lean ====
section
/-! DEFINITION. One arm per operation, each a direct call of its meaning. -/

namespace Sys2Proof.Machine

def exec (i : Instr) (s : State) : Host.Outcome State Fault Refusal :=
  match i with
  | .configure orient model => Sys2Proof.Machine.execConfigure orient model s
  | .resolve => Sys2Proof.Machine.execResolve s
  | .setPixel on => Sys2Proof.Machine.execSetPixel on s
  | .fill on => Sys2Proof.Machine.execFill on s
  | .init => Sys2Proof.Machine.execInit s
  | .flush => Sys2Proof.Machine.execFlush s
  | .sleep => Sys2Proof.Machine.execSleep s
  | .wake => Sys2Proof.Machine.execWake s
  | .lowPower => Sys2Proof.Machine.execLowPower s
  | .highPower => Sys2Proof.Machine.execHighPower s

end Sys2Proof.Machine
end

