-- ==== Sys2Proof/Machine/Sequencer.lean ====
section
/-! DEFINITION. What the sequencer (10_state.md R23) does with the command word it holds. -/

namespace Sys2Proof.Machine

/-- The command word the sequencer holds, decoded and executed (R87, R206): a refused word ends the
operation with the mark and no other effect. -/
def runCommand (c : Word) (s : State) : Host.Outcome State Fault Refusal :=
  match decode c with
  | .ok i => exec i s
  | .error r => .next (refuseOp r s)

end Sys2Proof.Machine
end

