-- ==== Sys2Proof/Machine/Step.lean ====
section
/-! DEFINITION. One step of the block: one host input served, or the running operation taken to its
end, or nothing to do. -/

namespace Sys2Proof.Machine

/-- The step (R22, R23, R70). The block fetches nothing: an operation comes from a CMD write. -/
def step (s : State) : Host.Outcome State Fault Refusal :=
  match nextMove s with
  | .reset rest => .next (blockReset (s.setInputs rest))
  | .serve a rest => .next (hostAccess a (s.setInputs rest))
  | .run c => runCommand c s
  | .idle => .next s

/-- The state right after a host write of the table word to CMD, with no input in front that would be
served before the operation ends (log entry 2). -/
def State.withFetchWord (s : State) (nbits w : Nat) : State :=
  (s.setInputs (s.hostIn.dropWhile arrivesFirst)).startOp (tableWord nbits w)

end Sys2Proof.Machine
end

