-- ==== Sys2Proof/Machine/Assembler.lean ====
section
/-! DEFINITION. The assembler of 30_encoding.md R90 to R92: a line becomes host accesses, a
pseudo-operation becomes lines, and a line of text is read by its characters. -/

namespace Sys2Proof.Machine

/-! ### Lines into host accesses (R91, R92) -/

/-- `WR <reg>, <value>`. -/
def wrInput (r : HostReg) (v : Word) : HostInput := .access (.write (regOffset r) 32 v)

/-- `RD <reg>`. -/
def rdInput (r : HostReg) : HostInput := .access (.read (regOffset r) 32)

/-- `WAIT`: the poll of STATUS that returns BUSY = 0. An access of the waiting kind is served only when
no operation runs, so one read is the whole of it (log entry 21). -/
def waitInput : HostInput := rdInput .status

/-- A number as the 32 bits a register takes: `v mod 2^32` (R91). -/
def word32 (v : Int) : Word := BitVec.ofInt 32 v

/-- ARG0 of CONFIGURE: `(h << 16) | w` (R91). -/
def geometryArg (w h : Int) : Word := (word32 h <<< 16) ||| word32 w

/-- The command word of CONFIGURE: `0x1 | (o << 5) | (m << 8)` (R91). -/
def configureCmd (o m : Int) : Word := 0x1 ||| (word32 o <<< 5) ||| (word32 m <<< 8)

/-- The command word of SETPX: `0x3 | (on << 4)` (R91). -/
def setpxCmd (on : Int) : Word := 0x3 ||| (word32 on <<< 4)

/-- The command word of FILL: `0x4 | (on << 4)` (R91). -/
def fillCmd (on : Int) : Word := 0x4 ||| (word32 on <<< 4)

/-- The expansion of a pseudo-operation (R92); any other line stands for itself. -/
def expandLine : AsmLine → List AsmLine
  | .plot x y => [.setpx x y 1]
  | .erase x y => [.setpx x y 0]
  | .clear => [.fill 0]
  | .blacken => [.fill 1]
  | .setup w h o m => [.configure w h o m, .init]
  | l => [l]

/-- The host accesses of a line that is no pseudo-operation (R91): the ARG writes of R86 in order, the
CMD write, WAIT. DESIGN CHOICE (log entry 29): every ARG write is made, also where R91 lets an assembler
leave it out because the register already holds the value. -/
def baseInputs : AsmLine → List HostInput
  | .configure w h o m => [wrInput .arg0 (geometryArg w h), wrInput .cmd (configureCmd o m), waitInput]
  | .resolve x y =>
    [wrInput .arg0 (word32 x), wrInput .arg1 (word32 y), wrInput .cmd 0x2, waitInput]
  | .setpx x y on =>
    [wrInput .arg0 (word32 x), wrInput .arg1 (word32 y), wrInput .cmd (setpxCmd on), waitInput]
  | .fill on => [wrInput .cmd (fillCmd on), waitInput]
  | .init => [wrInput .cmd 0x5, waitInput]
  | .flush => [wrInput .cmd 0x6, waitInput]
  | .sleep => [wrInput .cmd 0x7, waitInput]
  | .wake => [wrInput .cmd 0x8, waitInput]
  | .lowpwr => [wrInput .cmd 0x9, waitInput]
  | .highpwr => [wrInput .cmd 0xA, waitInput]
  | .wr r v => [wrInput r (word32 v)]
  | .rd r => [rdInput r]
  | .wait => [waitInput]
  | .plot _ _ => []
  | .erase _ _ => []
  | .clear => []
  | .blacken => []
  | .setup _ _ _ _ => []

/-- A line into host accesses; `none` where the assembler rejects an operand (R91). -/
def assemble (l : AsmLine) : Option (List HostInput) :=
  if l.wellFormed then some ((expandLine l).flatMap baseInputs) else none

/-! ### Text into lines (R90) -/

/-- A digit of a number in base 10 or 16. -/
def digitValue (base : Nat) (c : Char) : Option Nat :=
  let n := c.toNat
  let v :=
    if 48 ≤ n ∧ n ≤ 57 then n - 48
    else if 65 ≤ n ∧ n ≤ 70 then n - 55
    else if 97 ≤ n ∧ n ≤ 102 then n - 87
    else 16
  if v < base then some v else none

/-- A non-empty run of digits. -/
def digitsValue (base : Nat) (cs : List Char) : Option Nat :=
  if cs.isEmpty then none
  else cs.foldlM (fun acc c => (digitValue base c).map fun d => acc * base + d) 0

/-- A number without a sign: decimal, or hexadecimal with `0x`. -/
def parseNat : List Char → Option Nat
  | '0' :: 'x' :: cs => digitsValue 16 cs
  | cs => digitsValue 10 cs

/-- A number, which may be negative. -/
def parseInt : List Char → Option Int
  | '-' :: cs => (parseNat cs).map fun n => -(n : Int)
  | cs => (parseNat cs).map fun n => (n : Int)

/-- An orientation: `A`, `B`, or a number. -/
def parseOrient : List Char → Option Int
  | ['A'] => some 0
  | ['B'] => some 1
  | cs => parseInt cs

/-- A register by its name in R34. -/
def parseReg (cs : List Char) : Option HostReg :=
  if cs = ['C', 'M', 'D'] then some .cmd
  else if cs = ['A', 'R', 'G', '0'] then some .arg0
  else if cs = ['A', 'R', 'G', '1'] then some .arg1
  else if cs = ['R', 'E', 'S', '0'] then some .res0
  else if cs = ['R', 'E', 'S', '1'] then some .res1
  else if cs = ['S', 'T', 'A', 'T', 'U', 'S'] then some .status
  else if cs = ['G', 'E', 'O', 'M'] then some .geom
  else if cs = ['C', 'F', 'G'] then some .cfg
  else if cs = ['B', 'U', 'F', 'S', 'I', 'Z', 'E'] then some .bufsize
  else if cs = ['W', 'I', 'N', 'D', 'O', 'W'] then some .window
  else none

/-- Blanks between the parts of a line. -/
def isBlank (c : Char) : Bool := c == ' ' || c == '\t'

/-- A part of a line without the blanks around it. -/
def trim (cs : List Char) : List Char :=
  ((cs.dropWhile isBlank).reverse.dropWhile isBlank).reverse

/-- Operands are separated by commas; a line with no operand has none. -/
def splitOperands (cs : List Char) : List (List Char) :=
  if trim cs = [] then [] else (cs.splitOn ',').map trim

/-- A mnemonic of R90 or R92, or a host primitive of R91, with the texts of its operands. DESIGN CHOICE
(log entry 30): WR is read with a comma between register and value, as R91 writes it, and also with only
blanks there, as PROG-6 of 95_test_vectors.md writes it. -/
def parseOperation (name : List Char) (ops : List (List Char)) : Option AsmLine :=
  match name, ops with
  | ['C', 'O', 'N', 'F', 'I', 'G', 'U', 'R', 'E'], [w, h, o, m] => do
    return .configure (← parseInt w) (← parseInt h) (← parseOrient o) (← parseInt m)
  | ['R', 'E', 'S', 'O', 'L', 'V', 'E'], [x, y] => do
    return .resolve (← parseInt x) (← parseInt y)
  | ['S', 'E', 'T', 'P', 'X'], [x, y, on] => do
    return .setpx (← parseInt x) (← parseInt y) (← parseInt on)
  | ['F', 'I', 'L', 'L'], [on] => do return .fill (← parseInt on)
  | ['I', 'N', 'I', 'T'], [] => some .init
  | ['F', 'L', 'U', 'S', 'H'], [] => some .flush
  | ['S', 'L', 'E', 'E', 'P'], [] => some .sleep
  | ['W', 'A', 'K', 'E'], [] => some .wake
  | ['L', 'O', 'W', 'P', 'W', 'R'], [] => some .lowpwr
  | ['H', 'I', 'G', 'H', 'P', 'W', 'R'], [] => some .highpwr
  | ['P', 'L', 'O', 'T'], [x, y] => do return .plot (← parseInt x) (← parseInt y)
  | ['E', 'R', 'A', 'S', 'E'], [x, y] => do return .erase (← parseInt x) (← parseInt y)
  | ['C', 'L', 'E', 'A', 'R'], [] => some .clear
  | ['B', 'L', 'A', 'C', 'K', 'E', 'N'], [] => some .blacken
  | ['S', 'E', 'T', 'U', 'P'], [w, h, o, m] => do
    return .setup (← parseInt w) (← parseInt h) (← parseOrient o) (← parseInt m)
  | ['W', 'R'], [r, v] => do return .wr (← parseReg r) (← parseInt v)
  | ['W', 'R'], [rv] => do
    return .wr (← parseReg (rv.takeWhile fun c => !isBlank c))
      (← parseInt (trim (rv.dropWhile fun c => !isBlank c)))
  | ['R', 'D'], [r] => do return .rd (← parseReg r)
  | ['W', 'A', 'I', 'T'], [] => some .wait
  | _, _ => none

/-- One line of text (R90): a comment runs from `;` to the end, and a line may be blank. -/
def parseLine (text : List Char) : Option (List AsmLine) :=
  let code := trim (text.takeWhile fun c => c != ';')
  if code = [] then some []
  else
    (parseOperation (code.takeWhile fun c => !isBlank c)
      (splitOperands (code.dropWhile fun c => !isBlank c))).map fun l => [l]

end Sys2Proof.Machine
end

