-- ==== Sys2Proof/Safety.lean ====
section
/-! DEFINITION. What counts as a safe run (60_exceptions.md R210, R211; 70_reset_and_hazards.md R242),
the well-formedness of a wire trace (42_transport_writer.md R161), and the invariant of the block. -/

namespace Sys2Proof.Machine

/-! ### Premises a claim takes -/

/-- "REFUSED is false" (R210) and "FAULTS is empty" (R211): a good final state. -/
abbrev State.Good (s : State) : Prop :=
  s.refused = false ∧ s.faults = []

/-- The premise of a claim about the panel's image: "HAZARDS is empty" besides (R242). -/
abbrev State.ImageGood (s : State) : Prop :=
  s.Good ∧ s.hazards = []

/-! ### Trace well-formedness (R161) -/

/-- Where a reader of the trace stands: between transactions, with or without DC driven to CMD since the
last one ended; or inside a transaction, with its command byte sent or not, and the level of DC. -/
inductive Scan where
  | outside (dcDriven : Bool)
  | inside (commandSent : Bool) (dc : DcLevel)
deriving DecidableEq, Repr

/-- One event read: `none` where R161 does not allow it there, or a delay is 0 (R163). -/
def Scan.next : Scan → Event → Option Scan
  | .outside _, .dc .cmd => some (.outside true)
  | .outside _, .dc .data => some (.outside false)
  | .outside true, .csOn => some (.inside false .cmd)
  | .outside false, .csOn => none
  | .outside _, .tx _ => none
  | .outside _, .csOff => none
  | .outside d, .rst _ => some (.outside d)
  | .outside d, .delay ms => if ms > 0 then some (.outside d) else none
  | .inside sent _, .dc level => some (.inside sent level)
  | .inside _ _, .csOn => none
  | .inside false .cmd, .tx _ => some (.inside true .cmd)
  | .inside false .data, .tx _ => none
  | .inside true .data, .tx _ => some (.inside true .data)
  | .inside true .cmd, .tx _ => none
  | .inside _ _, .csOff => some (.outside false)
  | .inside _ _, .rst _ => none
  | .inside _ _, .delay _ => none

/-- A run of events read in order. -/
def Scan.run (sc : Scan) (es : List Event) : Option Scan :=
  es.foldlM Scan.next sc

/-- No transaction is open. -/
def Scan.isOutside : Scan → Bool
  | .outside _ => true
  | .inside _ _ => false

/-- R161 for a whole trace: read from the start it never breaks a clause, and it ends between
transactions. -/
def traceOk (es : List Event) : Bool :=
  match Scan.run (.outside false) es with
  | some sc => sc.isOutside
  | none => false

/-- Only a block with the reset line emits Rst events (R160, R164). -/
def rstFitted (hasRst : Bool) (es : List Event) : Bool :=
  (es.all fun e => match e with
    | .rst _ => false
    | _ => true) || hasRst

/-! ### Pixels -/

/-- The framebuffer bit that R121 or R122 gives an in-range pixel: true is white/off (R10). -/
def State.pixel (s : State) (x y : Nat) : Option Bool :=
  let p := mapPixel s.orient s.width s.height x y
  (s.fb.read p.1).map fun b => b.getLsbD p.2

/-- The state after the host has written x to ARG0 and y to ARG1 (R91). -/
def State.withArgs (s : State) (x y : Int) : State :=
  (s.writeArg0 (word32 x)).writeArg1 (word32 y)

/-- CONFIGURED or READY: the states in which RESOLVE, SET_PIXEL and FILL are accepted (R88). -/
abbrev State.Usable (s : State) : Prop :=
  s.status.state = .configured ∨ s.status.state = .ready

/-! ### What comes next -/

/-- The running operation goes to its end at the next step: no input is served before it. -/
abbrev State.Runs (s : State) (c : Word) : Prop :=
  s.pending = some c ∧ (s.hostIn = [] ∨ ∃ a rest, s.hostIn = .access a :: rest)

/-- The access is served at the next step, with these inputs after it. -/
abbrev State.Serves (s : State) (a : HostAccess) (rest : List HostInput) : Prop :=
  s.hostIn = .during a :: rest ∨ (s.hostIn = .access a :: rest ∧ s.pending = none)

/-- The next step is no block reset. -/
abbrev State.NoReset (s : State) : Prop :=
  ∀ rest, s.hostIn ≠ .blockReset :: rest

/-! ### Frames: parts of the state that two states share -/

/-- ARG0 and ARG1, with their written-flags. -/
abbrev SameArgs (s t : State) : Prop :=
  t.arg0 = s.arg0 ∧ t.arg1 = s.arg1 ∧ t.arg0Written = s.arg0Written ∧ t.arg1Written = s.arg1Written

/-- RES0 and RES1, with their written-flags. -/
abbrev SameResults (s t : State) : Prop :=
  t.res0 = s.res0 ∧ t.res1 = s.res1 ∧ t.res0Written = s.res0Written ∧ t.res1Written = s.res1Written

/-- GEOM, CFG, BUFSIZE, WINDOW and both tables. -/
abbrev SameSetup (s t : State) : Prop :=
  t.geom = s.geom ∧ t.cfg = s.cfg ∧ t.bufsize = s.bufsize ∧ t.window = s.window ∧
    t.coordMap = s.coordMap

/-- Every byte of FB, by the read of one byte. -/
abbrev SameFb (s t : State) : Prop :=
  ∀ a, t.fb.read a = s.fb.read a

/-- The lines and the trace. -/
abbrev SameWire (s t : State) : Prop :=
  t.lines = s.lines ∧ t.trace = s.trace

/-- STATE, ERR and CAUSE. -/
abbrev SameStatus (s t : State) : Prop :=
  t.status.state = s.status.state ∧ t.status.err = s.status.err ∧ t.status.cause = s.status.cause

/-- PANEL_ASLEEP and HAZARDS. -/
abbrev SamePanel (s t : State) : Prop :=
  t.panelAsleep = s.panelAsleep ∧ t.hazards = s.hazards

/-- REFUSED with its log, and FAULTS. -/
abbrev SameMarks (s t : State) : Prop :=
  t.refused = s.refused ∧ t.refusalLog = s.refusalLog ∧ t.faults = s.faults

/-- What an operation never touches: the inputs still to come, the values already read and the count of
block resets. -/
abbrev SameWorld (s t : State) : Prop :=
  t.hostIn = s.hostIn ∧ t.hostOut = s.hostOut ∧ t.resets = s.resets

/-! ### The invariant -/

/-- A geometry that passes R111, apart from the model. -/
abbrev GeometryOk (width height : Nat) (orient : BitVec 2) : Prop :=
  8 ≤ width ∧ width ≤ 65535 ∧ 8 ≤ height ∧ height ≤ 65535 ∧
    ((orient = 0 ∧ width % 2 = 0 ∧ height % 4 = 0) ∨
      (orient = 1 ∧ width % 4 = 0 ∧ height % 2 = 0)) ∧
    bufferSize width height ≤ 65536

/-- FB holds exactly the bytes at [0, size) (R36). -/
abbrev Memory.Dense (m : Memory) (size : Nat) : Prop :=
  m.cells.map Prod.fst = List.range size

/-- What holds of the setup registers and memories once CONFIGURE has succeeded, apart from the OPEN
parameters: R29 to R31, R35, R36, R126. -/
abbrev State.Setup (s : State) : Prop :=
  GeometryOk s.width s.height s.orient ∧
    s.geom = geomWord s.width s.height ∧
    s.cfg = cfgWord s.orient s.model ∧
    s.bufsize = BitVec.ofNat 32 (bufferSize s.width s.height) ∧
    s.coordMap = some (buildTables s.width s.height s.orient) ∧
    s.fb.Dense (bufferSize s.width s.height) ∧
    s.status.err = .noError ∧ s.status.cause = .noCause

/-- What holds before CONFIGURE has succeeded: the registers are 0 and the memories absent. -/
abbrev State.Absent (s : State) : Prop :=
  s.geom = 0 ∧ s.cfg = 0 ∧ s.bufsize = 0 ∧ s.window = 0 ∧ s.coordMap = none ∧ s.fb = ⟨[]⟩ ∧
    s.lines = ⟨.deasserted, none, none⟩ ∧ s.trace = [] ∧ s.panelAsleep = true

/-- STATE, ERR and CAUSE against the setup registers (R25 to R32). -/
abbrev State.SetupInv (s : State) : Prop :=
  (s.status.state = .unconfigured → s.Absent ∧ s.status.err = .noError ∧ s.status.cause = .noCause) ∧
    (s.status.state = .failed → s.Absent ∧
      ((s.status.err = .configurationError ∧ s.status.cause ≠ .noCause) ∨
        (s.status.err = .allocationFailure ∧ s.status.cause = .noCause))) ∧
    (s.status.state = .configured → s.Setup ∧ s.lines = ⟨.deasserted, none, none⟩ ∧ s.trace = [] ∧
      s.panelAsleep = true) ∧
    (s.status.state = .ready → s.Setup)

/-- MODEL is a supported id and WINDOW is its window, once configured (R32, R111). -/
abbrev State.PanelInv (p : Params) (s : State) : Prop :=
  s.status.state = .configured ∨ s.status.state = .ready →
    s.model ∈ p.models ∧ s.window = windowWord (p.window s.model)

/-- The trace is well formed, the lines stand where its events left them, CS is deasserted between
operations, and only a fitted reset line is driven (R37, R161, R164). -/
abbrev State.WireInv (p : Params) (s : State) : Prop :=
  traceOk s.trace = true ∧ s.lines = s.trace.foldl Lines.after ⟨.deasserted, none, none⟩ ∧
    s.lines.cs = .deasserted ∧ rstFitted p.hasRst s.trace = true

/-- BUSY is 1 exactly while the sequencer holds an operation (R23, R28); REFUSED stands for a recorded
refusal; FAULTS and HAZARDS are sets; both RES registers are written together (R39, R40, R125). -/
abbrev State.MarksInv (s : State) : Prop :=
  s.status.busy = s.pending.isSome ∧ s.refused = !s.refusalLog.isEmpty ∧ s.faults.Nodup ∧
    s.hazards.Nodup ∧ s.res0Written = s.res1Written

/-- The invariant of the block. -/
abbrev State.Inv (s : State) : Prop :=
  s.fb.wf = true ∧ s.SetupInv ∧ s.PanelInv Config.params ∧ s.WireInv Config.params ∧ s.MarksInv

end Sys2Proof.Machine
end

