-- ==== Sys2Proof/Certificates/Slice0/Obligations.lean ====
section
/-! DEFINITION. What the provers are asked to prove of the model, from the numbered rules of the spec.
`Config` holds uninterpreted constants, so each statement holds for every value of the OPEN parameters
and of the draws. -/

open Sys2Proof Sys2Proof.Machine

/-! ### Encoding (30_encoding.md) -/

/-- R81, R83, R84, R87: command words written out bit by bit from the format, one or more for each
family, decode to the operation they stand for; reserved words are refused by their reason. -/
def Obligations.CommandWordsDecodeAsTheFormatSays : Prop :=
  decode 0b00000000000000000101101000100001#32 = .ok (.configure 1 0x5A) ∧
  decode 0b00000000000000000000000001100001#32 = .ok (.configure 3 0x00) ∧
  decode 0b00000000000000000000000000000010#32 = .ok .resolve ∧
  decode 0b00000000000000000000000000010011#32 = .ok (.setPixel true) ∧
  decode 0b00000000000000000000000000000011#32 = .ok (.setPixel false) ∧
  decode 0b00000000000000000000000000010100#32 = .ok (.fill true) ∧
  decode 0b00000000000000000000000000000101#32 = .ok .init ∧
  decode 0b00000000000000000000000000000110#32 = .ok .flush ∧
  decode 0b00000000000000000000000000000111#32 = .ok .sleep ∧
  decode 0b00000000000000000000000000001000#32 = .ok .wake ∧
  decode 0b00000000000000000000000000001001#32 = .ok .lowPower ∧
  decode 0b00000000000000000000000000001010#32 = .ok .highPower ∧
  decode 0b00000000000000000000000000001011#32 = .error .reservedOpcode ∧
  decode 0b00000000000000000000000010000001#32 = .error .reservedField

/-- R81, R84, R87: no bit of an encoding is dropped. Decoding the command word of any operation, with
any value of its fields, gives the operation back. -/
def Obligations.DecodeOfEncodeIsTheOperation : Prop :=
  ∀ i : Instr, decode (encode i) = .ok i

/-- R84, R87: each operation has one command word for each value of its fields, and no other word
decodes to it. -/
def Obligations.EncodeOfDecodeIsTheWord : Prop :=
  ∀ (c : Word) (i : Instr), decode c = .ok i → encode i = c

/-- R84: "No two rows match the same word". -/
def Obligations.NoWordMatchesTwoRows : Prop :=
  ∀ r ∈ opcodeRows, ∀ r' ∈ opcodeRows, ∀ c : Word,
    c &&& r.mask = r.pattern → c &&& r'.mask = r'.pattern → r.pattern = r'.pattern

/-- R89: the reserved encodings are exactly the four kinds it lists, and decode refuses each; a
CONFIGURE with OR = 2 or 3, or with a MODEL outside P_MODELS, decodes and raises ConfigurationError,
whatever the OPEN parameters and the draws are. -/
def Obligations.ReservedEncodingsAreRefused : Prop :=
  (∀ c : Word,
    (decode c = .error .reservedOpcode ↔
      (c.extractLsb' 0 4).toNat = 0 ∨ 11 ≤ (c.extractLsb' 0 4).toNat) ∧
    (decode c = .error .reservedField ↔
      (1 ≤ (c.extractLsb' 0 4).toNat ∧ (c.extractLsb' 0 4).toNat ≤ 10) ∧
      (c.getLsbD 7 = true ∨ c.extractLsb' 16 16 ≠ 0 ∨
        (c.getLsbD 4 = true ∧ c.extractLsb' 0 4 ≠ 3 ∧ c.extractLsb' 0 4 ≠ 4) ∨
        ((c.extractLsb' 5 2 ≠ 0 ∨ c.extractLsb' 8 8 ≠ 0) ∧ c.extractLsb' 0 4 ≠ 1))) ∧
    ((∃ i, decode c = .ok i) ∨ decode c = .error .reservedOpcode ∨
      decode c = .error .reservedField)) ∧
  (∀ (p : Params) (allocOk : Bool) (fbInit : Nat → Byte) (s : State) (orient : BitVec 2)
    (model : Byte), s.status.state = .unconfigured → s.arg0Written = true →
    (orient = 2 ∨ orient = 3 ∨ model ∉ p.models) →
    decode (encode (.configure orient model)) = .ok (.configure orient model) ∧
    ∃ cause, configureWith p allocOk fbInit orient model s = .next { s with
      status := ⟨.failed, false, .configurationError, cause⟩, pending := none }) ∧
  (∀ (s : State) (orient : BitVec 2) (model : Byte), exec (.configure orient model) s =
    configureWith Config.params (Config.allocOk s.draws) (Config.fbInit s.draws) orient model s)

/-! ### Reset, the step and the host port -/

/-- R231: the values the spec gives for reset. The stored values of ARG0, ARG1, RES0 and RES1, which
are the model's choice (log entry 6), are left out: those registers are unwritten. -/
def Obligations.ResetLeavesTheSpecifiedValues : Prop :=
  let s := State.reset
  s.status = ⟨.unconfigured, false, .noError, .noCause⟩ ∧ statusWord s.status = 0 ∧
  s.geom = 0 ∧ s.cfg = 0 ∧ s.bufsize = 0 ∧ s.window = 0 ∧
  s.arg0Written = false ∧ s.arg1Written = false ∧ s.res0Written = false ∧ s.res1Written = false ∧
  s.coordMap = none ∧ (∀ a, s.fb.read a = none) ∧
  s.lines.cs = .deasserted ∧ s.lines.dc = none ∧ s.lines.rst = none ∧ s.trace = [] ∧
  s.panelAsleep = true ∧ s.refused = false ∧ s.faults = [] ∧ s.hazards = []

/-- R230: block reset puts every piece of the block's state at its reset value, in whatever state it
comes, also while an operation runs. The inputs still to come, the values already read, the draws taken
and the count of resets are the model's own record of the outside (log entry 18). -/
def Obligations.BlockResetRestoresTheResetState : Prop :=
  ∀ (s : State) (rest : List HostInput), s.hostIn = .blockReset :: rest →
    step s = .next { State.reset with
      hostIn := rest, hostOut := s.hostOut, draws := s.draws, resets := s.resets + 1 }

/-- R22, R23, R87: when the sequencer holds a command word that decodes to `i`, and no input comes
first, the step is `exec i`, with nothing around it. -/
def Obligations.StepRunsTheDecodedOperation : Prop :=
  ∀ (s : State) (c : Word) (i : Instr), s.Runs c → decode c = .ok i → step s = exec i s

/-- R87, R210: a refused command word changes no state except the REFUSED mark; BUSY, which the CMD
write had raised, returns to 0. -/
def Obligations.RefusedWordLeavesOnlyTheMark : Prop :=
  ∀ (s : State) (c : Word) (r : RefusalReason), s.Runs c → decode c = .error r →
    step s = .next { s with
      refused := true
      refusalLog := s.refusalLog ++ [r]
      status := { s.status with busy := false }
      pending := none }

/-- R33, R28: a write of CMD sets BUSY and hands the word to the sequencer; a read of CMD is refused. -/
def Obligations.CmdWriteStartsTheOperation : Prop :=
  (∀ (s : State) (c : Word) (rest : List HostInput), s.status.busy = false →
    s.Serves (.write 0x00 32 c) rest →
    step s = .next { s with
      hostIn := rest, status := { s.status with busy := true }, pending := some c }) ∧
  (∀ (s : State) (rest : List HostInput), s.status.busy = false → s.Serves (.read 0x00 32) rest →
    step s = .next { s with
      hostIn := rest, refused := true, refusalLog := s.refusalLog ++ [.badHostAccess] })

/-- R42, R34, R68: an aligned 32-bit read of a readable register returns its value and changes nothing
else. STATUS reads as STATE + 8*ERR + 32*CAUSE, BUSY being 0 (R24). A read of ARG0 or ARG1 that nothing
has written answers the register's free value, the model's reading of R40 and R42 (log entry 7), and
changes nothing else either. -/
def Obligations.HostReadReturnsTheRegister : Prop :=
  ∀ (s : State) (offset : BitVec 6) (v : Word) (rest : List HostInput), s.status.busy = false →
    s.Serves (.read offset 32) rest →
    ((offset = 0x04 ∧ s.arg0Written = true ∧ v = s.arg0) ∨
      (offset = 0x08 ∧ s.arg1Written = true ∧ v = s.arg1) ∨
      (offset = 0x04 ∧ s.arg0Written = false ∧ v = Config.unwrittenArg 0 s.resets) ∨
      (offset = 0x08 ∧ s.arg1Written = false ∧ v = Config.unwrittenArg 1 s.resets) ∨
      (offset = 0x0C ∧ s.res0Written = true ∧ v = s.res0) ∨
      (offset = 0x10 ∧ s.res1Written = true ∧ v = s.res1) ∨
      (offset = 0x14 ∧ v = BitVec.ofNat 32 ((stateCode s.status.state).toNat +
        8 * (errCode s.status.err).toNat + 32 * (causeCode s.status.cause).toNat)) ∨
      (offset = 0x18 ∧ v = s.geom) ∨ (offset = 0x1C ∧ v = s.cfg) ∨
      (offset = 0x20 ∧ v = s.bufsize) ∨ (offset = 0x24 ∧ v = s.window)) →
    step s = .next { s with hostIn := rest, hostOut := s.hostOut ++ [⟨offset, v⟩] }

/-- R40: a host read of a RES register that was never written adds UNWRITTEN_REGISTER to FAULTS, and
the register's value is not used. -/
def Obligations.ReadOfUnwrittenResultFaults : Prop :=
  ∀ (s : State) (offset : BitVec 6) (rest : List HostInput), s.status.busy = false →
    s.Serves (.read offset 32) rest →
    ((offset = 0x0C ∧ s.res0Written = false) ∨ (offset = 0x10 ∧ s.res1Written = false)) →
    ∃ fs, step s = .next { s with hostIn := rest, faults := fs } ∧ .unwrittenRegister ∈ fs ∧
      ∀ f ∈ s.faults, f ∈ fs

/-- R43: a write of ARG0 or ARG1 stores the value and sets the written-flag, and changes nothing else. -/
def Obligations.HostWriteStoresTheOperand : Prop :=
  (∀ (s : State) (v : Word) (rest : List HostInput), s.status.busy = false →
    s.Serves (.write 0x04 32 v) rest →
    step s = .next { s with hostIn := rest, arg0 := v, arg0Written := true }) ∧
  (∀ (s : State) (v : Word) (rest : List HostInput), s.status.busy = false →
    s.Serves (.write 0x08 32 v) rest →
    step s = .next { s with hostIn := rest, arg1 := v, arg1Written := true })

/-- R65, R66, R43: an access that is not 32 bits wide, not aligned, or at a reserved offset, and a write
of a read-only register, is refused with BAD_HOST_ACCESS; nothing else changes. -/
def Obligations.BadHostAccessesAreRefused : Prop :=
  ∀ (s : State) (a : HostAccess) (rest : List HostInput), s.status.busy = false → s.Serves a rest →
    (match a with
      | .read offset bits => bits ≠ 32 ∨ offset.toNat % 4 ≠ 0 ∨ 0x28 ≤ offset.toNat
      | .write offset bits _ => bits ≠ 32 ∨ offset.toNat % 4 ≠ 0 ∨ 0x0C ≤ offset.toNat) →
    step s = .next { s with
      hostIn := rest, refused := true, refusalLog := s.refusalLog ++ [.badHostAccess] }

/-- R240: while BUSY = 1 a STATUS read is answered, with BUSY in bit 2, and any other access is
refused with BUSY_ACCESS and changes nothing else. What the read shows of STATE, ERR and CAUSE, and the
reason recorded for a malformed access, are the model's (log entries 24 and 14). -/
def Obligations.BusyBlockAnswersOnlyStatusReads : Prop :=
  ∀ (s : State) (a : HostAccess) (rest : List HostInput), s.status.busy = true → s.Serves a rest →
    (a = .read 0x14 32 →
      step s = .next { s with
        hostIn := rest
        hostOut := s.hostOut ++ [⟨0x14, BitVec.ofNat 32 ((stateCode s.status.state).toNat + 4 +
          8 * (errCode s.status.err).toNat + 32 * (causeCode s.status.cause).toNat)⟩] }) ∧
    (a ≠ .read 0x14 32 →
      step s = .next { s with
        hostIn := rest, refused := true, refusalLog := s.refusalLog ++ [.busyAccess] })

/-! ### The checks every operation begins with -/

/-- R88: an operation issued outside its STATE set is refused with WRONG_STATE and has no effect; so in
FAILED every operation is refused. -/
def Obligations.OperationsOutsideTheirStatesAreRefused : Prop :=
  ∀ (i : Instr) (s : State),
    (match i with
      | .configure _ _ => s.status.state ≠ .unconfigured
      | .resolve => ¬s.Usable
      | .setPixel _ => ¬s.Usable
      | .fill _ => ¬s.Usable
      | .init => s.status.state ≠ .configured
      | .flush => s.status.state ≠ .ready
      | .sleep => s.status.state ≠ .ready
      | .wake => s.status.state ≠ .ready
      | .lowPower => s.status.state ≠ .ready
      | .highPower => s.status.state ≠ .ready) →
    exec i s = .next { s with
      refused := true
      refusalLog := s.refusalLog ++ [.wrongState]
      status := { s.status with busy := false }
      pending := none }

/-- R40, R86, R211: in a state that accepts it, an operation that reads an ARG register never written
faults: UNWRITTEN_REGISTER joins FAULTS and the operation does nothing further. -/
def Obligations.UnwrittenOperandsFault : Prop :=
  ∀ (i : Instr) (s : State),
    ((∃ orient model, i = .configure orient model) ∧ s.status.state = .unconfigured ∧
        s.arg0Written = false) ∨
      ((i = .resolve ∨ ∃ on, i = .setPixel on) ∧ s.Usable ∧
        (s.arg0Written = false ∨ s.arg1Written = false)) →
    ∃ fs, exec i s = .next { s with
        faults := fs, status := { s.status with busy := false }, pending := none } ∧
      .unwrittenRegister ∈ fs ∧ ∀ f ∈ s.faults, f ∈ fs

/-- R205: FAILED is terminal. Every operation in it is refused with WRONG_STATE; no step but a block
reset leaves it, clears ERR or CAUSE, or touches the setup, FB or the wire; and a block reset does
leave it. -/
def Obligations.FailedBlockStaysFailed : Prop :=
  (∀ (i : Instr) (s : State), s.status.state = .failed →
    exec i s = .next { s with
      refused := true
      refusalLog := s.refusalLog ++ [.wrongState]
      status := { s.status with busy := false }
      pending := none }) ∧
  (∀ s t : State, s.status.state = .failed → s.NoReset → step s = .next t →
    t.status.state = .failed ∧ t.status.err = s.status.err ∧ t.status.cause = s.status.cause ∧
      SameSetup s t ∧ SameFb s t ∧ SameWire s t) ∧
  (∀ s : State, s.status.state = .failed → ¬s.NoReset →
    ∃ t, step s = .next t ∧ t.status = ⟨.unconfigured, false, .noError, .noCause⟩)

/-! ### CONFIGURE (40_geometry_resolver.md) -/

/-- R111, R201, R203: the first check that fails, in the order MODEL, ORIENT, RANGE, DIVISIBILITY,
SIZE, decides the cause; the error entry sets ERR, CAUSE and STATE, clears BUSY, and changes nothing
else. It holds whatever the OPEN parameters and the draws are. -/
def Obligations.ConfigureRaisesTheFirstFailedCheck : Prop :=
  ∀ (p : Params) (allocOk : Bool) (fbInit : Nat → Byte) (s : State) (orient : BitVec 2)
    (model : Byte) (cause : Cause), s.status.state = .unconfigured → s.arg0Written = true →
    let w := s.arg0.toNat % 65536
    let h := s.arg0.toNat / 65536
    let known := model ∈ p.models
    let packed := (orient = 0 ∧ w % 2 = 0 ∧ h % 4 = 0) ∨ (orient = 1 ∧ w % 4 = 0 ∧ h % 2 = 0)
    ((cause = .model ∧ ¬known) ∨
      (cause = .orient ∧ known ∧ 2 ≤ orient.toNat) ∨
      (cause = .range ∧ known ∧ orient.toNat < 2 ∧ (w < 8 ∨ h < 8)) ∨
      (cause = .divisibility ∧ known ∧ orient.toNat < 2 ∧ 8 ≤ w ∧ 8 ≤ h ∧ ¬packed) ∨
      (cause = .size ∧ known ∧ 8 ≤ w ∧ 8 ≤ h ∧ packed ∧ 65536 < w * h / 8)) →
    configureWith p allocOk fbInit orient model s = .next { s with
      status := ⟨.failed, false, .configurationError, cause⟩, pending := none } ∧
    exec (.configure orient model) s =
      configureWith Config.params (Config.allocOk s.draws) (Config.fbInit s.draws) orient model s

/-- R112 to R115, R203: for a supported model and a geometry that passes, CONFIGURE takes the draw
alloc_ok and either commits, with the registers, tables and FB of R113 and R114, or raises
AllocationFailure; nothing else changes. -/
def Obligations.ConfigureCommitsOrFailsToAllocate : Prop :=
  ∀ (s : State) (orient : BitVec 2) (model : Byte),
    s.status.state = .unconfigured → s.arg0Written = true →
    let w := s.arg0.toNat % 65536
    let h := s.arg0.toNat / 65536
    let win := Config.params.window model
    model ∈ Config.params.models → 8 ≤ w → 8 ≤ h →
    ((orient = 0 ∧ w % 2 = 0 ∧ h % 4 = 0) ∨ (orient = 1 ∧ w % 4 = 0 ∧ h % 2 = 0)) →
    w * h / 8 ≤ 65536 →
    exec (.configure orient model) s = .next
      (if Config.allocOk s.draws = true then
        { s with
          geom := BitVec.ofNat 32 (h * 65536 + w)
          cfg := BitVec.ofNat 32 (model.toNat * 256 + orient.toNat)
          bufsize := BitVec.ofNat 32 (w * h / 8)
          window := BitVec.ofNat 32 (win.colStart.toNat + 256 * win.colEnd.toNat +
            65536 * win.rowStart.toNat + 16777216 * win.rowEnd.toNat)
          coordMap := some (buildTables w h orient)
          fb := Memory.create (w * h / 8) (Config.fbInit s.draws)
          status := { s.status with state := .configured, busy := false }
          pending := none
          draws := s.draws + 1 }
      else
        { s with
          status := ⟨.failed, false, .allocationFailure, .noCause⟩
          pending := none
          draws := s.draws + 1 })

/-- R36, R114: for a supported model and a geometry that passes, a CONFIGURE whose memory is granted
creates FB: byte i of [0, bufferSize) is fb_init(i), and there is no other byte. It holds for every
draw fb_init, and the operation takes the draw at its own count. -/
def Obligations.FramebufferBeginsAsTheDraw : Prop :=
  ∀ (s : State) (fbInit : Nat → Byte) (orient : BitVec 2) (model : Byte),
    s.status.state = .unconfigured → s.arg0Written = true → model ∈ Config.params.models →
    GeometryOk (s.arg0.toNat % 65536) (s.arg0.toNat / 65536) orient →
    (∃ t, configureWith Config.params true fbInit orient model s = .next t ∧
      t.status = ⟨.configured, false, s.status.err, s.status.cause⟩ ∧
      t.bufsize.toNat = (s.arg0.toNat % 65536) * (s.arg0.toNat / 65536) / 8 ∧
      ∀ i, t.fb.read i = if i < t.bufsize.toNat then some (fbInit i) else none) ∧
    exec (.configure orient model) s =
      configureWith Config.params (Config.allocOk s.draws) (Config.fbInit s.draws) orient model s

/-- R117, R115: CONFIGURE emits no wire event and changes no line. It leaves the operand and result
registers, the panel marks and the outside alone, and either it commits or it leaves the setup
registers, the tables and FB alone. Accepted with its operand written, it leaves no mark. -/
def Obligations.ConfigureFrame : Prop :=
  ∀ (s t : State) (orient : BitVec 2) (model : Byte), exec (.configure orient model) s = .next t →
    SameWire s t ∧ SameArgs s t ∧ SameResults s t ∧ SamePanel s t ∧ SameWorld s t ∧
      ((SameSetup s t ∧ SameFb s t) ∨
        (s.status.state = .unconfigured ∧ t.status.state = .configured)) ∧
      (s.status.state = .unconfigured → s.arg0Written = true → SameMarks s t)

/-- R126 with R121 and R122: after a CONFIGURE whose memory is granted, the tables hold, at
`x*height + y`, the offset and the mask that the orientation's formula gives, for every in-range
pixel. -/
def Obligations.TablesHoldTheOrientationsMapping : Prop :=
  ∀ (s : State) (fbInit : Nat → Byte) (orient : BitVec 2) (model : Byte),
    s.status.state = .unconfigured → s.arg0Written = true → model ∈ Config.params.models →
    let w := s.arg0.toNat % 65536
    let h := s.arg0.toNat / 65536
    GeometryOk w h orient →
    ∃ t, configureWith Config.params true fbInit orient model s = .next t ∧
      t.width = w ∧ t.height = h ∧ t.orient = orient ∧
      ∀ x y : Nat, x < w → y < h →
        ∃ off mask, t.tableEntry (x * h + y) = some (off, mask) ∧
          (orient = 0 → off.toNat = (x / 2) * (h / 4) + (h - 1 - y) / 4 ∧
            mask = 1#8 <<< (7 - ((h - 1 - y) % 4 * 2 + x % 2))) ∧
          (orient = 1 → off.toNat = (y / 2) * (w / 4) + x / 4 ∧
            mask = 1#8 <<< (7 - (y % 2 * 4 + x % 4)))

/-- R123: for a geometry that passes, in either orientation, the map from in-range pixels to (byte
offset, bit) is a bijection onto [0, bufferSize) × [0, 7]. -/
def Obligations.PixelMapIsABijection : Prop :=
  ∀ (w h : Nat) (orient : BitVec 2), GeometryOk w h orient →
    (∀ x y, x < w → y < h →
      (mapPixel orient w h x y).1 < w * h / 8 ∧ (mapPixel orient w h x y).2 ≤ 7) ∧
    (∀ x y x' y', x < w → y < h → x' < w → y' < h →
      mapPixel orient w h x y = mapPixel orient w h x' y' → x = x' ∧ y = y') ∧
    (∀ off bit, off < w * h / 8 → bit ≤ 7 →
      ∃ x y, x < w ∧ y < h ∧ mapPixel orient w h x y = (off, bit))

/-- R35: once configured, the tables have `width*height` entries, each an offset in [0, bufferSize) and
a mask with exactly one bit set. -/
def Obligations.TableEntriesAreOffsetsAndOneHotMasks : Prop :=
  ∀ s : State, s.Setup → ∀ i,
    (i < s.width * s.height → ∃ off mask, s.tableEntry i = some (off, mask) ∧
      off.toNat < s.bufsize.toNat ∧ ∃ k < 8, mask = 1#8 <<< k) ∧
    (s.width * s.height ≤ i → s.tableEntry i = none)

/-! ### RESOLVE -/

/-- R125, R121, R122: an in-range RESOLVE puts the byte offset in RES0 and VALID with the mask in RES1,
marks both written, ends with BUSY clear, and changes nothing else. -/
def Obligations.ResolveInRangeGivesThePair : Prop :=
  ∀ (s : State) (x y : Nat), s.Usable → s.Setup → s.arg0Written = true → s.arg1Written = true →
    s.arg0.toInt = x → s.arg1.toInt = y → x < s.width → y < s.height →
    let ir := s.height - 1 - y
    let off :=
      if s.orient = 0 then (x / 2) * (s.height / 4) + ir / 4 else (y / 2) * (s.width / 4) + x / 4
    let bit := if s.orient = 0 then 7 - (ir % 4 * 2 + x % 2) else 7 - (y % 2 * 4 + x % 4)
    exec .resolve s = .next { s with
      res0 := BitVec.ofNat 32 off
      res1 := BitVec.ofNat 32 (256 + 2 ^ bit)
      res0Written := true
      res1Written := true
      status := { s.status with busy := false }
      pending := none }

/-- R125, R141: an out-of-range RESOLVE is no error. It writes 0 to RES0 and RES1, so VALID is 0. -/
def Obligations.ResolveOutOfRangeGivesZero : Prop :=
  ∀ s : State, s.Usable → s.arg0Written = true → s.arg1Written = true →
    ¬(0 ≤ s.arg0.toInt ∧ s.arg0.toInt < s.width ∧ 0 ≤ s.arg1.toInt ∧ s.arg1.toInt < s.height) →
    exec .resolve s = .next { s with
      res0 := 0
      res1 := 0
      res0Written := true
      res1Written := true
      status := { s.status with busy := false }
      pending := none }

/-- R125: RESOLVE changes RES0 and RES1 only. It writes no FB byte and emits no wire event. -/
def Obligations.ResolveFrame : Prop :=
  ∀ s t : State, exec .resolve s = .next t →
    SameArgs s t ∧ SameSetup s t ∧ SameFb s t ∧ SameWire s t ∧ SameStatus s t ∧ SamePanel s t ∧
      SameWorld s t ∧ t.draws = s.draws ∧
      (s.Usable → s.arg0Written = true → s.arg1Written = true → SameMarks s t)

/-! ### SET_PIXEL and FILL (41_framebuffer.md) -/

/-- R140: an in-range SET_PIXEL rewrites the one byte at the pixel's offset, with the pixel's bit
cleared for on and set for off, and changes nothing else. -/
def Obligations.SetPixelInRangeRewritesTheByte : Prop :=
  ∀ (s : State) (on : Bool) (x y : Nat), s.Usable → s.Setup → s.arg0Written = true →
    s.arg1Written = true → s.arg0.toInt = x → s.arg1.toInt = y → x < s.width → y < s.height →
    let ir := s.height - 1 - y
    let off :=
      if s.orient = 0 then (x / 2) * (s.height / 4) + ir / 4 else (y / 2) * (s.width / 4) + x / 4
    let bit := if s.orient = 0 then 7 - (ir % 4 * 2 + x % 2) else 7 - (y % 2 * 4 + x % 4)
    ∃ b m, s.fb.read off = some b ∧
      exec (.setPixel on) s = .next { s with
        fb := m, status := { s.status with busy := false }, pending := none } ∧
      m.read off = some (if on then b &&& ~~~(1#8 <<< bit) else b ||| (1#8 <<< bit)) ∧
      ∀ a, a ≠ off → m.read a = s.fb.read a

/-- R141: every pair out of range is a silent no-op of SET_PIXEL, never an error. -/
def Obligations.SetPixelOutOfRangeIsANoOp : Prop :=
  ∀ (s : State) (on : Bool), s.Usable → s.arg0Written = true → s.arg1Written = true →
    ¬(0 ≤ s.arg0.toInt ∧ s.arg0.toInt < s.width ∧ 0 ≤ s.arg1.toInt ∧ s.arg1.toInt < s.height) →
    exec (.setPixel on) s = .next { s with
      status := { s.status with busy := false }, pending := none }

/-- R140, R141: SET_PIXEL changes FB only, and there only the byte at the table's offset for the pixel
its operands name; out of range it changes no byte. -/
def Obligations.SetPixelFrame : Prop :=
  ∀ (s t : State) (on : Bool), exec (.setPixel on) s = .next t →
    SameArgs s t ∧ SameResults s t ∧ SameSetup s t ∧ SameWire s t ∧ SameStatus s t ∧
      SamePanel s t ∧ SameWorld s t ∧ t.draws = s.draws ∧
      (∀ off mask, inRange s.width s.height s.x s.y = true →
        s.tableEntry (linearIndex s.height s.x s.y) = some (off, mask) →
        ∀ a, a ≠ off.toNat → t.fb.read a = s.fb.read a) ∧
      (inRange s.width s.height s.x s.y = false → SameFb s t) ∧
      (s.Usable → s.arg0Written = true → s.arg1Written = true → SameMarks s t)

/-- R143 item 2 with R123: after SET_PIXEL at an in-range pixel, that pixel is off (1) or on (0) as
asked, and every other in-range pixel is as before. -/
def Obligations.SetPixelChangesExactlyThatPixel : Prop :=
  ∀ (s : State) (on : Bool) (x y : Nat), s.Usable → s.Setup → x < s.width → y < s.height →
    ∃ t, exec (.setPixel on) (s.withArgs x y) = .next t ∧ t.pixel x y = some (!on) ∧
      ∀ x' y', x' < s.width → y' < s.height → (x', y') ≠ (x, y) → t.pixel x' y' = s.pixel x' y'

/-- R143 item 3: after SET_PIXEL with any value, writing the pixel's original value back restores FB
exactly. -/
def Obligations.WritingThePixelBackRestoresFb : Prop :=
  ∀ (s : State) (on : Bool) (x y : Nat) (original : Bool), s.Usable → s.Setup → x < s.width →
    y < s.height → s.pixel x y = some original →
    ∃ t u, exec (.setPixel on) (s.withArgs x y) = .next t ∧
      exec (.setPixel !original) (t.withArgs x y) = .next u ∧ u.fb = s.fb

/-- R143 item 5: SET_PIXEL at two different in-range pixels commutes. -/
def Obligations.SetPixelsCommute : Prop :=
  ∀ (s : State) (on on' : Bool) (x y x' y' : Nat), s.Usable → s.Setup → x < s.width →
    y < s.height → x' < s.width → y' < s.height → (x, y) ≠ (x', y') →
    ∃ t t' u u', exec (.setPixel on) (s.withArgs x y) = .next t ∧
      exec (.setPixel on') (t.withArgs x' y') = .next t' ∧
      exec (.setPixel on') (s.withArgs x' y') = .next u ∧
      exec (.setPixel on) (u.withArgs x y) = .next u' ∧ t'.fb = u'.fb

/-- R142, R143 item 1: FILL sets every byte of FB to 0x00 for on and 0xFF for off, whatever FB held
before, creates no byte, and changes nothing else. It reads no ARG register. -/
def Obligations.FillSetsEveryByte : Prop :=
  ∀ (s : State) (on : Bool), s.Usable → s.Setup →
    ∃ m, exec (.fill on) s = .next { s with
        fb := m, status := { s.status with busy := false }, pending := none } ∧
      ∀ a, m.read a = if a < s.bufsize.toNat then some (if on then 0x00 else 0xFF) else none

/-- R142: FILL changes FB only, and there only the bytes at [0, BUFSIZE). -/
def Obligations.FillFrame : Prop :=
  ∀ (s t : State) (on : Bool), exec (.fill on) s = .next t →
    SameArgs s t ∧ SameResults s t ∧ SameSetup s t ∧ SameWire s t ∧ SameStatus s t ∧
      SamePanel s t ∧ SameWorld s t ∧ t.draws = s.draws ∧
      (∀ a, s.bufsize.toNat ≤ a → t.fb.read a = s.fb.read a) ∧ (s.Usable → SameMarks s t)

/-! ### The Transport Writer (42_transport_writer.md) -/

/-- R164, R165, R167, R168: INIT emits the reset pulse where the line is fitted, then the model's
bring-up table verbatim, each entry one transaction (R162) and its delay, then the post-bring-up delay.
STATE becomes READY, PANEL_ASLEEP false. The lines end with CS deasserted, DC at the level of the last
byte sent, and RST asserted where it is fitted and as before where it is not (R37, R160). Nothing else
changes. -/
def Obligations.InitEmitsPulseAndBringUp : Prop :=
  ∀ s : State, s.status.state = .configured →
    let p := Config.params
    let pulse : List Event :=
      if p.hasRst = true then
        [.rst .asserted, .delay 50, .rst .deasserted, .delay 20, .rst .asserted, .delay 50]
      else []
    let table := (p.bringUp (s.cfg.extractLsb' 8 8)).flatMap fun e =>
      [Event.dc .cmd, .csOn, .tx e.cmd] ++
        (if e.data = [] then [] else [.dc .data] ++ e.data.map Event.tx) ++ [.csOff] ++
        (if e.delayMs > 0 then [.delay e.delayMs] else [])
    let post : List Event := if p.postBringUpMs > 0 then [.delay p.postBringUpMs] else []
    ∃ last, (p.bringUp (s.cfg.extractLsb' 8 8)).getLast? = some last ∧
      exec .init s = .next { s with
        trace := s.trace ++ (pulse ++ table ++ post)
        lines :=
          { cs := .deasserted
            dc := some (if last.data = [] then .cmd else .data)
            rst := if p.hasRst = true then some .asserted else s.lines.rst }
        panelAsleep := false
        status := { s.status with state := .ready, busy := false }
        pending := none }

/-- R166: the bring-up table of every supported model leaves sleep with its wait, stays awake and sets
both halves of the window; and imposing this on a choice of the parameters that meets it already
changes none of its tables (log entry 11). -/
def Obligations.BringUpTablesMeetTheirConstraint : Prop :=
  Config.params.Valid ∧
  ∀ p : Params, p.models ≠ [] →
    p.constrained.Valid ∧
      (p.Valid → ∀ m ∈ p.models, p.constrained.bringUp m = p.bringUp m)

/-- R169, R170: FLUSH emits five transactions: high power, display on, the column window, the row
window, and the memory write with every byte of FB in ascending order under one chip-select. The lines
end with CS deasserted and DC at DATA. Only the trace, the lines and, while the panel sleeps, the
hazard mark change. -/
def Obligations.FlushStreamsTheWholeBuffer : Prop :=
  ∀ s : State, s.status.state = .ready → s.Setup →
    ∃ bytes : List Byte, bytes.length = s.bufsize.toNat ∧
      (∀ i, i < s.bufsize.toNat → s.fb.read i = bytes[i]?) ∧
      let p := Config.params
      exec .flush s = .next { s with
        trace := s.trace ++
          ([.dc .cmd, .csOn, .tx p.opHpm, .csOff] ++
            [.dc .cmd, .csOn, .tx p.opDispon, .csOff] ++
            [.dc .cmd, .csOn, .tx p.opCaset, .dc .data, .tx (s.window.extractLsb' 0 8),
              .tx (s.window.extractLsb' 8 8), .csOff] ++
            [.dc .cmd, .csOn, .tx p.opRaset, .dc .data, .tx (s.window.extractLsb' 16 8),
              .tx (s.window.extractLsb' 24 8), .csOff] ++
            [.dc .cmd, .csOn, .tx p.opRamwr, .dc .data] ++ bytes.map Event.tx ++ [.csOff])
        lines := { s.lines with cs := .deasserted, dc := some .data }
        hazards :=
          if s.panelAsleep = true ∧ .flushWhileAsleep ∉ s.hazards then
            s.hazards ++ [.flushWhileAsleep]
          else s.hazards
        status := { s.status with busy := false }
        pending := none }

/-- R178: the events of one FLUSH. The bytes sent are, in this order, P_OP_HPM; P_OP_DISPON;
P_OP_CASET, colStart, colEnd; P_OP_RASET, rowStart, rowEnd; P_OP_RAMWR and every byte of FB; that is
bufferSize + 9 Tx, with 5 CsOn, 5 CsOff, 5 Dc(CMD), 3 Dc(DATA), and no Delay. -/
def Obligations.FlushEventCounts : Prop :=
  ∀ s : State, s.status.state = .ready → s.Setup →
    ∃ t es bytes, exec .flush s = .next t ∧ t.trace = s.trace ++ es ∧
      bytes.length = s.bufsize.toNat ∧ (∀ i, i < s.bufsize.toNat → s.fb.read i = bytes[i]?) ∧
      (es.filterMap fun e => match e with
        | .tx b => some b
        | _ => none) =
        [Config.params.opHpm, Config.params.opDispon,
          Config.params.opCaset, s.window.extractLsb' 0 8, s.window.extractLsb' 8 8,
          Config.params.opRaset, s.window.extractLsb' 16 8, s.window.extractLsb' 24 8,
          Config.params.opRamwr] ++ bytes ∧
      (es.countP fun e => match e with
        | .tx _ => true
        | _ => false) = s.bufsize.toNat + 9 ∧
      es.count .csOn = 5 ∧ es.count .csOff = 5 ∧ es.count (.dc .cmd) = 5 ∧
      es.count (.dc .data) = 3 ∧ (∀ ms, .delay ms ∉ es) ∧ es.length = s.bufsize.toNat + 27

/-- R171: SLEEP sends the one command byte P_OP_SLPIN and sets PANEL_ASLEEP. -/
def Obligations.SleepSendsSleepIn : Prop :=
  ∀ s : State, s.status.state = .ready →
    exec .sleep s = .next { s with
      trace := s.trace ++ [.dc .cmd, .csOn, .tx Config.params.opSlpin, .csOff]
      lines := { s.lines with cs := .deasserted, dc := some .cmd }
      panelAsleep := true
      status := { s.status with busy := false }
      pending := none }

/-- R172: WAKE sends the one command byte P_OP_SLPOUT, then a delay of 120 ms, and clears
PANEL_ASLEEP. -/
def Obligations.WakeSendsSleepOutAndWaits : Prop :=
  ∀ s : State, s.status.state = .ready →
    exec .wake s = .next { s with
      trace := s.trace ++ [.dc .cmd, .csOn, .tx Config.params.opSlpout, .csOff, .delay 120]
      lines := { s.lines with cs := .deasserted, dc := some .cmd }
      panelAsleep := false
      status := { s.status with busy := false }
      pending := none }

/-- R173, R174, R175: LOW_POWER and HIGH_POWER each send their one command byte, every time they are
issued, and change no mark of the panel. -/
def Obligations.PowerModesSendTheirCommand : Prop :=
  ∀ s : State, s.status.state = .ready →
    (exec .lowPower s = .next { s with
      trace := s.trace ++ [.dc .cmd, .csOn, .tx Config.params.opLpm, .csOff]
      lines := { s.lines with cs := .deasserted, dc := some .cmd }
      status := { s.status with busy := false }
      pending := none }) ∧
    (exec .highPower s = .next { s with
      trace := s.trace ++ [.dc .cmd, .csOn, .tx Config.params.opHpm, .csOff]
      lines := { s.lines with cs := .deasserted, dc := some .cmd }
      status := { s.status with busy := false }
      pending := none })

/-- R167, R169, R171 to R176: INIT, FLUSH, SLEEP, WAKE, LOW_POWER and HIGH_POWER change no register but
STATUS, no table and no FB byte; ERR and CAUSE stay; STATE moves only by INIT; an accepted one leaves
no mark but the hazard mark of FLUSH. -/
def Obligations.WireOperationsFrame : Prop :=
  ∀ (i : Instr) (s t : State),
    (i = .init ∨ i = .flush ∨ i = .sleep ∨ i = .wake ∨ i = .lowPower ∨ i = .highPower) →
    exec i s = .next t →
    SameArgs s t ∧ SameResults s t ∧ SameSetup s t ∧ SameFb s t ∧ SameWorld s t ∧
      t.draws = s.draws ∧ t.status.err = s.status.err ∧ t.status.cause = s.status.cause ∧
      (i ≠ .init → t.status.state = s.status.state) ∧ (i ≠ .flush → t.hazards = s.hazards) ∧
      (i = .flush ∨ i = .lowPower ∨ i = .highPower → t.panelAsleep = s.panelAsleep) ∧
      ((i = .init ∧ s.status.state = .configured) ∨ (i ≠ .init ∧ s.status.state = .ready) →
        SameMarks s t)

/-- R242: HAZARDS gains FLUSH_WHILE_ASLEEP when FLUSH runs with PANEL_ASLEEP true, and by no other
operation, in no other case, by no host access, and by no step but one that runs FLUSH (a block reset,
which empties HAZARDS, apart). -/
def Obligations.OnlyAFlushWhileAsleepIsAHazard : Prop :=
  (∀ s : State, s.status.state = .ready → s.Setup → s.panelAsleep = true →
    ∃ t, exec .flush s = .next t ∧ .flushWhileAsleep ∈ t.hazards) ∧
  (∀ (i : Instr) (s t : State), exec i s = .next t →
    (i ≠ .flush ∨ s.panelAsleep = false ∨ s.status.state ≠ .ready) → t.hazards = s.hazards) ∧
  (∀ (a : HostAccess) (s : State), (hostAccess a s).hazards = s.hazards) ∧
  (∀ s t : State, s.NoReset → step s = .next t →
    (∀ c, s.Runs c → decode c ≠ .ok .flush) → t.hazards = s.hazards)

/-! ### The whole machine -/

/-- The block right after reset meets the invariant. -/
def Obligations.ResetMeetsTheInvariant : Prop :=
  State.reset.Inv

/-- R25 to R37, R61, R126, R161, R166: every step, whatever the host does, keeps the invariant: the
setup registers, the tables and FB agree with STATE; ERR and CAUSE with FAILED; FB keeps its canonical
form; the trace is well formed and the lines follow it; BUSY follows the sequencer. -/
def Obligations.StepKeepsTheInvariant : Prop :=
  ∀ s t : State, s.Inv → step s = .next t → t.Inv

/-- R61, R87, R200: from a state that meets the invariant a step always answers a next state. FB is
never addressed out of range, no table entry is missing, and no command word stops the machine. -/
def Obligations.StepFromTheInvariantNeverStops : Prop :=
  ∀ s : State, s.Inv → ∃ t, step s = .next t

/-- R161: every step keeps the trace well formed and CS deasserted between operations, in any state
whose trace is well formed. -/
def Obligations.StepKeepsTheTraceWellFormed : Prop :=
  ∀ s t : State, traceOk s.trace = true → s.lines.cs = .deasserted → step s = .next t →
    traceOk t.trace = true ∧ t.lines.cs = .deasserted

/-- R25: the legal transitions of STATE are exactly these three, each by the operation named: no other
operation, no host access and no other step but a block reset changes STATE. -/
def Obligations.StateTransitionsAreLegal : Prop :=
  (∀ (i : Instr) (s t : State), exec i s = .next t →
    t.status.state = s.status.state ∨
    ((∃ orient model, i = .configure orient model) ∧ s.status.state = .unconfigured ∧
      (t.status.state = .configured ∨ (t.status.state = .failed ∧ t.status.err ≠ .noError))) ∨
    (i = .init ∧ s.status.state = .configured ∧ t.status.state = .ready)) ∧
  (∀ (a : HostAccess) (s : State), (hostAccess a s).status.state = s.status.state) ∧
  (∀ s t : State, s.NoReset → step s = .next t → t.status.state ≠ s.status.state →
    ∃ c i, s.Runs c ∧ decode c = .ok i ∧ exec i s = .next t)

/-- R26: once non-zero, ERR is never cleared except by block reset. -/
def Obligations.ErrIsClearedOnlyByBlockReset : Prop :=
  ∀ s t : State, s.Inv → s.status.err ≠ .noError → s.NoReset → step s = .next t →
    t.status.err = s.status.err ∧ t.status.cause = s.status.cause

/-- R29 to R32, R35: once configured, GEOM, CFG, BUFSIZE, WINDOW and both tables never change until
block reset. -/
def Obligations.GeometryIsFixedOnceConfigured : Prop :=
  ∀ s t : State, s.Usable → s.NoReset → step s = .next t → SameSetup s t ∧ t.Usable

/-- R21: no operation writes ARG0 or ARG1, only RESOLVE writes RES0 and RES1, and no host access writes
RES0 or RES1. -/
def Obligations.OnlyResolveWritesTheResults : Prop :=
  (∀ (i : Instr) (s t : State), exec i s = .next t →
    SameArgs s t ∧ (i ≠ .resolve → SameResults s t)) ∧
  (∀ (a : HostAccess) (s : State), SameResults s (hostAccess a s))

/-- R36, R145: of the operations after setup only SET_PIXEL and FILL write FB, and no host access
writes it. -/
def Obligations.OnlySetPixelAndFillWriteFb : Prop :=
  (∀ (i : Instr) (s t : State), exec i s = .next t → s.status.state ≠ .unconfigured →
    (∀ on, i ≠ .setPixel on ∧ i ≠ .fill on) → t.fb = s.fb) ∧
  (∀ (a : HostAccess) (s : State), (hostAccess a s).fb = s.fb)

/-- R39, R210, R211: REFUSED, FAULTS and HAZARDS are sticky: no step but a block reset clears them. -/
def Obligations.MarksAreSticky : Prop :=
  ∀ s t : State, s.NoReset → step s = .next t →
    (s.refused = true → t.refused = true) ∧ (∀ f ∈ s.faults, f ∈ t.faults) ∧
      ∀ h ∈ s.hazards, h ∈ t.hazards

/-- R70, R68: events enter the wire trace in order and cannot be taken back: no step but a block reset
takes an event from the trace or reorders it, and a host access adds none. -/
def Obligations.TheTraceOnlyGrows : Prop :=
  (∀ s t : State, s.NoReset → step s = .next t → ∃ es, t.trace = s.trace ++ es) ∧
  (∀ (a : HostAccess) (s : State), SameWire s (hostAccess a s))

/-- R28, R23: every operation runs to completion in its step: BUSY is 0 and the sequencer is empty when
it ends, however it ends. -/
def Obligations.EveryOperationEndsWithBusyClear : Prop :=
  ∀ (i : Instr) (s t : State), exec i s = .next t → t.status.busy = false ∧ t.pending = none

/-! ### The assembler (30_encoding.md R90 to R92) -/

/-- R91, R92, R85: a line assembles into the ARG0 write, the ARG1 write, the CMD write and WAIT, in this
order and with the ARG writes its operation reads, and the values written are the line's operands as the
operation reads them; an operand outside its range is rejected; a pseudo-operation is its expansion.
That every ARG write is made, and that WAIT is one STATUS read, are the model's choice (log entries 29
and 21). -/
def Obligations.AssembledLinesReadBack : Prop :=
  (∀ w h o m : Int, (0 ≤ w ∧ w ≤ 65535) ∧ (0 ≤ h ∧ h ≤ 65535) ∧ (0 ≤ o ∧ o ≤ 3) ∧
      (0 ≤ m ∧ m ≤ 255) →
    ∃ arg0 c orient model, assemble (.configure w h o m) = some
        [.access (.write 0x04 32 arg0), .access (.write 0x00 32 c), .access (.read 0x14 32)] ∧
      (widthOperand arg0 : Int) = w ∧ (heightOperand arg0 : Int) = h ∧
      decode c = .ok (.configure orient model) ∧ (orient.toNat : Int) = o ∧
      (model.toNat : Int) = m) ∧
  (∀ w h o m : Int, ¬((0 ≤ w ∧ w ≤ 65535) ∧ (0 ≤ h ∧ h ≤ 65535) ∧ (0 ≤ o ∧ o ≤ 3) ∧
      (0 ≤ m ∧ m ≤ 255)) →
    assemble (.configure w h o m) = none) ∧
  (∀ x y : Int, (-2147483648 ≤ x ∧ x ≤ 2147483647) ∧ (-2147483648 ≤ y ∧ y ≤ 2147483647) →
    ∃ arg0 arg1, sint arg0 = x ∧ sint arg1 = y ∧
      assemble (.resolve x y) = some
        [.access (.write 0x04 32 arg0), .access (.write 0x08 32 arg1),
          .access (.write 0x00 32 0x00000002), .access (.read 0x14 32)] ∧
      assemble (.setpx x y 1) = some
        [.access (.write 0x04 32 arg0), .access (.write 0x08 32 arg1),
          .access (.write 0x00 32 0x00000013), .access (.read 0x14 32)] ∧
      assemble (.setpx x y 0) = some
        [.access (.write 0x04 32 arg0), .access (.write 0x08 32 arg1),
          .access (.write 0x00 32 0x00000003), .access (.read 0x14 32)] ∧
      assemble (.plot x y) = assemble (.setpx x y 1) ∧
      assemble (.erase x y) = assemble (.setpx x y 0)) ∧
  (∀ x y on : Int,
    ¬((-2147483648 ≤ x ∧ x ≤ 2147483647) ∧ (-2147483648 ≤ y ∧ y ≤ 2147483647)) →
    assemble (.resolve x y) = none ∧ assemble (.setpx x y on) = none) ∧
  (∀ l ∈ [(AsmLine.fill 1, (0x14 : Word)), (.fill 0, 0x4), (.blacken, 0x14), (.clear, 0x4),
      (.init, 0x5), (.flush, 0x6), (.sleep, 0x7), (.wake, 0x8), (.lowpwr, 0x9), (.highpwr, 0xA)],
    assemble l.1 = some [.access (.write 0x00 32 l.2), .access (.read 0x14 32)]) ∧
  (∀ (w h o m : Int) (configured : List HostInput),
    assemble (.configure w h o m) = some configured →
    assemble (.setup w h o m) = some
      (configured ++ [.access (.write 0x00 32 0x5), .access (.read 0x14 32)]))

/-! ### The operands between host writes -/

/-- R21: ARG0 and ARG1 keep their value, as the host reads it, until the host writes them: a step that
is no block reset and serves no accepted write of the register leaves what a host read of it returns.
It holds for an unwritten register too, whose value is free (log entry 7). -/
def Obligations.OperandsKeepTheirValueUntilWritten : Prop :=
  ∀ s t : State, s.NoReset → step s = .next t →
    ((s.status.busy = true ∨ ∀ v rest, ¬s.Serves (.write 0x04 32 v) rest) →
      readReg t .arg0 = readReg s .arg0 ∧ t.arg0Written = s.arg0Written) ∧
    ((s.status.busy = true ∨ ∀ v rest, ¬s.Serves (.write 0x08 32 v) rest) →
      readReg t .arg1 = readReg s .arg1 ∧ t.arg1Written = s.arg1Written)
end

