-- ==== Sys2Proof/Laws/State.lean ====
section
/-! SUPPORT. What each update of the state leaves in each field, one lemma per field per update, so that
no later proof unfolds a record update. -/

namespace Sys2Proof.Machine

variable (s : State)

/-! ### State.emit -/

@[simp] theorem State.emit_arg0 (es : List Event) : (s.emit es).arg0 = s.arg0 := rfl
@[simp] theorem State.emit_arg1 (es : List Event) : (s.emit es).arg1 = s.arg1 := rfl
@[simp] theorem State.emit_res0 (es : List Event) : (s.emit es).res0 = s.res0 := rfl
@[simp] theorem State.emit_res1 (es : List Event) : (s.emit es).res1 = s.res1 := rfl
@[simp] theorem State.emit_arg0Written (es : List Event) :
    (s.emit es).arg0Written = s.arg0Written := rfl
@[simp] theorem State.emit_arg1Written (es : List Event) :
    (s.emit es).arg1Written = s.arg1Written := rfl
@[simp] theorem State.emit_res0Written (es : List Event) :
    (s.emit es).res0Written = s.res0Written := rfl
@[simp] theorem State.emit_res1Written (es : List Event) :
    (s.emit es).res1Written = s.res1Written := rfl
@[simp] theorem State.emit_status (es : List Event) : (s.emit es).status = s.status := rfl
@[simp] theorem State.emit_geom (es : List Event) : (s.emit es).geom = s.geom := rfl
@[simp] theorem State.emit_cfg (es : List Event) : (s.emit es).cfg = s.cfg := rfl
@[simp] theorem State.emit_bufsize (es : List Event) : (s.emit es).bufsize = s.bufsize := rfl
@[simp] theorem State.emit_window (es : List Event) : (s.emit es).window = s.window := rfl
@[simp] theorem State.emit_coordMap (es : List Event) : (s.emit es).coordMap = s.coordMap := rfl
@[simp] theorem State.emit_fb (es : List Event) : (s.emit es).fb = s.fb := rfl
@[simp] theorem State.emit_lines (es : List Event) :
    (s.emit es).lines = es.foldl Lines.after s.lines := rfl
@[simp] theorem State.emit_trace (es : List Event) : (s.emit es).trace = s.trace ++ es := rfl
@[simp] theorem State.emit_panelAsleep (es : List Event) :
    (s.emit es).panelAsleep = s.panelAsleep := rfl
@[simp] theorem State.emit_refused (es : List Event) : (s.emit es).refused = s.refused := rfl
@[simp] theorem State.emit_faults (es : List Event) : (s.emit es).faults = s.faults := rfl
@[simp] theorem State.emit_hazards (es : List Event) : (s.emit es).hazards = s.hazards := rfl
@[simp] theorem State.emit_pending (es : List Event) : (s.emit es).pending = s.pending := rfl
@[simp] theorem State.emit_hostIn (es : List Event) : (s.emit es).hostIn = s.hostIn := rfl
@[simp] theorem State.emit_hostOut (es : List Event) : (s.emit es).hostOut = s.hostOut := rfl
@[simp] theorem State.emit_refusalLog (es : List Event) :
    (s.emit es).refusalLog = s.refusalLog := rfl
@[simp] theorem State.emit_draws (es : List Event) : (s.emit es).draws = s.draws := rfl
@[simp] theorem State.emit_resets (es : List Event) : (s.emit es).resets = s.resets := rfl

/-! ### State.endOp -/

@[simp] theorem State.endOp_arg0 : s.endOp.arg0 = s.arg0 := rfl
@[simp] theorem State.endOp_arg1 : s.endOp.arg1 = s.arg1 := rfl
@[simp] theorem State.endOp_res0 : s.endOp.res0 = s.res0 := rfl
@[simp] theorem State.endOp_res1 : s.endOp.res1 = s.res1 := rfl
@[simp] theorem State.endOp_arg0Written : s.endOp.arg0Written = s.arg0Written := rfl
@[simp] theorem State.endOp_arg1Written : s.endOp.arg1Written = s.arg1Written := rfl
@[simp] theorem State.endOp_res0Written : s.endOp.res0Written = s.res0Written := rfl
@[simp] theorem State.endOp_res1Written : s.endOp.res1Written = s.res1Written := rfl
@[simp] theorem State.endOp_status : s.endOp.status = { s.status with busy := false } := rfl
@[simp] theorem State.endOp_geom : s.endOp.geom = s.geom := rfl
@[simp] theorem State.endOp_cfg : s.endOp.cfg = s.cfg := rfl
@[simp] theorem State.endOp_bufsize : s.endOp.bufsize = s.bufsize := rfl
@[simp] theorem State.endOp_window : s.endOp.window = s.window := rfl
@[simp] theorem State.endOp_coordMap : s.endOp.coordMap = s.coordMap := rfl
@[simp] theorem State.endOp_fb : s.endOp.fb = s.fb := rfl
@[simp] theorem State.endOp_lines : s.endOp.lines = s.lines := rfl
@[simp] theorem State.endOp_trace : s.endOp.trace = s.trace := rfl
@[simp] theorem State.endOp_panelAsleep : s.endOp.panelAsleep = s.panelAsleep := rfl
@[simp] theorem State.endOp_refused : s.endOp.refused = s.refused := rfl
@[simp] theorem State.endOp_faults : s.endOp.faults = s.faults := rfl
@[simp] theorem State.endOp_hazards : s.endOp.hazards = s.hazards := rfl
@[simp] theorem State.endOp_pending : s.endOp.pending = none := rfl
@[simp] theorem State.endOp_hostIn : s.endOp.hostIn = s.hostIn := rfl
@[simp] theorem State.endOp_hostOut : s.endOp.hostOut = s.hostOut := rfl
@[simp] theorem State.endOp_refusalLog : s.endOp.refusalLog = s.refusalLog := rfl
@[simp] theorem State.endOp_draws : s.endOp.draws = s.draws := rfl
@[simp] theorem State.endOp_resets : s.endOp.resets = s.resets := rfl

/-! ### State.markRefused -/

@[simp] theorem State.markRefused_arg0 (r : RefusalReason) : (s.markRefused r).arg0 = s.arg0 := rfl
@[simp] theorem State.markRefused_arg1 (r : RefusalReason) : (s.markRefused r).arg1 = s.arg1 := rfl
@[simp] theorem State.markRefused_res0 (r : RefusalReason) : (s.markRefused r).res0 = s.res0 := rfl
@[simp] theorem State.markRefused_res1 (r : RefusalReason) : (s.markRefused r).res1 = s.res1 := rfl
@[simp] theorem State.markRefused_arg0Written (r : RefusalReason) :
    (s.markRefused r).arg0Written = s.arg0Written := rfl
@[simp] theorem State.markRefused_arg1Written (r : RefusalReason) :
    (s.markRefused r).arg1Written = s.arg1Written := rfl
@[simp] theorem State.markRefused_res0Written (r : RefusalReason) :
    (s.markRefused r).res0Written = s.res0Written := rfl
@[simp] theorem State.markRefused_res1Written (r : RefusalReason) :
    (s.markRefused r).res1Written = s.res1Written := rfl
@[simp] theorem State.markRefused_status (r : RefusalReason) :
    (s.markRefused r).status = s.status := rfl
@[simp] theorem State.markRefused_geom (r : RefusalReason) : (s.markRefused r).geom = s.geom := rfl
@[simp] theorem State.markRefused_cfg (r : RefusalReason) : (s.markRefused r).cfg = s.cfg := rfl
@[simp] theorem State.markRefused_bufsize (r : RefusalReason) :
    (s.markRefused r).bufsize = s.bufsize := rfl
@[simp] theorem State.markRefused_window (r : RefusalReason) :
    (s.markRefused r).window = s.window := rfl
@[simp] theorem State.markRefused_coordMap (r : RefusalReason) :
    (s.markRefused r).coordMap = s.coordMap := rfl
@[simp] theorem State.markRefused_fb (r : RefusalReason) : (s.markRefused r).fb = s.fb := rfl
@[simp] theorem State.markRefused_lines (r : RefusalReason) :
    (s.markRefused r).lines = s.lines := rfl
@[simp] theorem State.markRefused_trace (r : RefusalReason) :
    (s.markRefused r).trace = s.trace := rfl
@[simp] theorem State.markRefused_panelAsleep (r : RefusalReason) :
    (s.markRefused r).panelAsleep = s.panelAsleep := rfl
@[simp] theorem State.markRefused_refused (r : RefusalReason) :
    (s.markRefused r).refused = true := rfl
@[simp] theorem State.markRefused_faults (r : RefusalReason) :
    (s.markRefused r).faults = s.faults := rfl
@[simp] theorem State.markRefused_hazards (r : RefusalReason) :
    (s.markRefused r).hazards = s.hazards := rfl
@[simp] theorem State.markRefused_pending (r : RefusalReason) :
    (s.markRefused r).pending = s.pending := rfl
@[simp] theorem State.markRefused_hostIn (r : RefusalReason) :
    (s.markRefused r).hostIn = s.hostIn := rfl
@[simp] theorem State.markRefused_hostOut (r : RefusalReason) :
    (s.markRefused r).hostOut = s.hostOut := rfl
@[simp] theorem State.markRefused_refusalLog (r : RefusalReason) :
    (s.markRefused r).refusalLog = s.refusalLog ++ [r] := rfl
@[simp] theorem State.markRefused_draws (r : RefusalReason) :
    (s.markRefused r).draws = s.draws := rfl
@[simp] theorem State.markRefused_resets (r : RefusalReason) :
    (s.markRefused r).resets = s.resets := rfl

/-! ### State.addFault -/

@[simp] theorem State.addFault_arg0 (f : FaultReason) : (s.addFault f).arg0 = s.arg0 := rfl
@[simp] theorem State.addFault_arg1 (f : FaultReason) : (s.addFault f).arg1 = s.arg1 := rfl
@[simp] theorem State.addFault_res0 (f : FaultReason) : (s.addFault f).res0 = s.res0 := rfl
@[simp] theorem State.addFault_res1 (f : FaultReason) : (s.addFault f).res1 = s.res1 := rfl
@[simp] theorem State.addFault_arg0Written (f : FaultReason) :
    (s.addFault f).arg0Written = s.arg0Written := rfl
@[simp] theorem State.addFault_arg1Written (f : FaultReason) :
    (s.addFault f).arg1Written = s.arg1Written := rfl
@[simp] theorem State.addFault_res0Written (f : FaultReason) :
    (s.addFault f).res0Written = s.res0Written := rfl
@[simp] theorem State.addFault_res1Written (f : FaultReason) :
    (s.addFault f).res1Written = s.res1Written := rfl
@[simp] theorem State.addFault_status (f : FaultReason) : (s.addFault f).status = s.status := rfl
@[simp] theorem State.addFault_geom (f : FaultReason) : (s.addFault f).geom = s.geom := rfl
@[simp] theorem State.addFault_cfg (f : FaultReason) : (s.addFault f).cfg = s.cfg := rfl
@[simp] theorem State.addFault_bufsize (f : FaultReason) : (s.addFault f).bufsize = s.bufsize := rfl
@[simp] theorem State.addFault_window (f : FaultReason) : (s.addFault f).window = s.window := rfl
@[simp] theorem State.addFault_coordMap (f : FaultReason) :
    (s.addFault f).coordMap = s.coordMap := rfl
@[simp] theorem State.addFault_fb (f : FaultReason) : (s.addFault f).fb = s.fb := rfl
@[simp] theorem State.addFault_lines (f : FaultReason) : (s.addFault f).lines = s.lines := rfl
@[simp] theorem State.addFault_trace (f : FaultReason) : (s.addFault f).trace = s.trace := rfl
@[simp] theorem State.addFault_panelAsleep (f : FaultReason) :
    (s.addFault f).panelAsleep = s.panelAsleep := rfl
@[simp] theorem State.addFault_refused (f : FaultReason) : (s.addFault f).refused = s.refused := rfl
@[simp] theorem State.addFault_faults (f : FaultReason) :
    (s.addFault f).faults = if f ∈ s.faults then s.faults else s.faults ++ [f] := rfl
@[simp] theorem State.addFault_hazards (f : FaultReason) : (s.addFault f).hazards = s.hazards := rfl
@[simp] theorem State.addFault_pending (f : FaultReason) : (s.addFault f).pending = s.pending := rfl
@[simp] theorem State.addFault_hostIn (f : FaultReason) : (s.addFault f).hostIn = s.hostIn := rfl
@[simp] theorem State.addFault_hostOut (f : FaultReason) : (s.addFault f).hostOut = s.hostOut := rfl
@[simp] theorem State.addFault_refusalLog (f : FaultReason) :
    (s.addFault f).refusalLog = s.refusalLog := rfl
@[simp] theorem State.addFault_draws (f : FaultReason) : (s.addFault f).draws = s.draws := rfl
@[simp] theorem State.addFault_resets (f : FaultReason) : (s.addFault f).resets = s.resets := rfl

/-! ### State.addHazard -/

@[simp] theorem State.addHazard_arg0 (h : Hazard) : (s.addHazard h).arg0 = s.arg0 := rfl
@[simp] theorem State.addHazard_arg1 (h : Hazard) : (s.addHazard h).arg1 = s.arg1 := rfl
@[simp] theorem State.addHazard_res0 (h : Hazard) : (s.addHazard h).res0 = s.res0 := rfl
@[simp] theorem State.addHazard_res1 (h : Hazard) : (s.addHazard h).res1 = s.res1 := rfl
@[simp] theorem State.addHazard_arg0Written (h : Hazard) :
    (s.addHazard h).arg0Written = s.arg0Written := rfl
@[simp] theorem State.addHazard_arg1Written (h : Hazard) :
    (s.addHazard h).arg1Written = s.arg1Written := rfl
@[simp] theorem State.addHazard_res0Written (h : Hazard) :
    (s.addHazard h).res0Written = s.res0Written := rfl
@[simp] theorem State.addHazard_res1Written (h : Hazard) :
    (s.addHazard h).res1Written = s.res1Written := rfl
@[simp] theorem State.addHazard_status (h : Hazard) : (s.addHazard h).status = s.status := rfl
@[simp] theorem State.addHazard_geom (h : Hazard) : (s.addHazard h).geom = s.geom := rfl
@[simp] theorem State.addHazard_cfg (h : Hazard) : (s.addHazard h).cfg = s.cfg := rfl
@[simp] theorem State.addHazard_bufsize (h : Hazard) : (s.addHazard h).bufsize = s.bufsize := rfl
@[simp] theorem State.addHazard_window (h : Hazard) : (s.addHazard h).window = s.window := rfl
@[simp] theorem State.addHazard_coordMap (h : Hazard) : (s.addHazard h).coordMap = s.coordMap := rfl
@[simp] theorem State.addHazard_fb (h : Hazard) : (s.addHazard h).fb = s.fb := rfl
@[simp] theorem State.addHazard_lines (h : Hazard) : (s.addHazard h).lines = s.lines := rfl
@[simp] theorem State.addHazard_trace (h : Hazard) : (s.addHazard h).trace = s.trace := rfl
@[simp] theorem State.addHazard_panelAsleep (h : Hazard) :
    (s.addHazard h).panelAsleep = s.panelAsleep := rfl
@[simp] theorem State.addHazard_refused (h : Hazard) : (s.addHazard h).refused = s.refused := rfl
@[simp] theorem State.addHazard_faults (h : Hazard) : (s.addHazard h).faults = s.faults := rfl
@[simp] theorem State.addHazard_hazards (h : Hazard) :
    (s.addHazard h).hazards = if h ∈ s.hazards then s.hazards else s.hazards ++ [h] := rfl
@[simp] theorem State.addHazard_pending (h : Hazard) : (s.addHazard h).pending = s.pending := rfl
@[simp] theorem State.addHazard_hostIn (h : Hazard) : (s.addHazard h).hostIn = s.hostIn := rfl
@[simp] theorem State.addHazard_hostOut (h : Hazard) : (s.addHazard h).hostOut = s.hostOut := rfl
@[simp] theorem State.addHazard_refusalLog (h : Hazard) :
    (s.addHazard h).refusalLog = s.refusalLog := rfl
@[simp] theorem State.addHazard_draws (h : Hazard) : (s.addHazard h).draws = s.draws := rfl
@[simp] theorem State.addHazard_resets (h : Hazard) : (s.addHazard h).resets = s.resets := rfl

/-! ### State.setResults -/

@[simp] theorem State.setResults_arg0 (r0 r1 : Word) : (s.setResults r0 r1).arg0 = s.arg0 := rfl
@[simp] theorem State.setResults_arg1 (r0 r1 : Word) : (s.setResults r0 r1).arg1 = s.arg1 := rfl
@[simp] theorem State.setResults_res0 (r0 r1 : Word) : (s.setResults r0 r1).res0 = r0 := rfl
@[simp] theorem State.setResults_res1 (r0 r1 : Word) : (s.setResults r0 r1).res1 = r1 := rfl
@[simp] theorem State.setResults_arg0Written (r0 r1 : Word) :
    (s.setResults r0 r1).arg0Written = s.arg0Written := rfl
@[simp] theorem State.setResults_arg1Written (r0 r1 : Word) :
    (s.setResults r0 r1).arg1Written = s.arg1Written := rfl
@[simp] theorem State.setResults_res0Written (r0 r1 : Word) :
    (s.setResults r0 r1).res0Written = true := rfl
@[simp] theorem State.setResults_res1Written (r0 r1 : Word) :
    (s.setResults r0 r1).res1Written = true := rfl
@[simp] theorem State.setResults_status (r0 r1 : Word) :
    (s.setResults r0 r1).status = s.status := rfl
@[simp] theorem State.setResults_geom (r0 r1 : Word) : (s.setResults r0 r1).geom = s.geom := rfl
@[simp] theorem State.setResults_cfg (r0 r1 : Word) : (s.setResults r0 r1).cfg = s.cfg := rfl
@[simp] theorem State.setResults_bufsize (r0 r1 : Word) :
    (s.setResults r0 r1).bufsize = s.bufsize := rfl
@[simp] theorem State.setResults_window (r0 r1 : Word) :
    (s.setResults r0 r1).window = s.window := rfl
@[simp] theorem State.setResults_coordMap (r0 r1 : Word) :
    (s.setResults r0 r1).coordMap = s.coordMap := rfl
@[simp] theorem State.setResults_fb (r0 r1 : Word) : (s.setResults r0 r1).fb = s.fb := rfl
@[simp] theorem State.setResults_lines (r0 r1 : Word) : (s.setResults r0 r1).lines = s.lines := rfl
@[simp] theorem State.setResults_trace (r0 r1 : Word) : (s.setResults r0 r1).trace = s.trace := rfl
@[simp] theorem State.setResults_panelAsleep (r0 r1 : Word) :
    (s.setResults r0 r1).panelAsleep = s.panelAsleep := rfl
@[simp] theorem State.setResults_refused (r0 r1 : Word) :
    (s.setResults r0 r1).refused = s.refused := rfl
@[simp] theorem State.setResults_faults (r0 r1 : Word) :
    (s.setResults r0 r1).faults = s.faults := rfl
@[simp] theorem State.setResults_hazards (r0 r1 : Word) :
    (s.setResults r0 r1).hazards = s.hazards := rfl
@[simp] theorem State.setResults_pending (r0 r1 : Word) :
    (s.setResults r0 r1).pending = s.pending := rfl
@[simp] theorem State.setResults_hostIn (r0 r1 : Word) :
    (s.setResults r0 r1).hostIn = s.hostIn := rfl
@[simp] theorem State.setResults_hostOut (r0 r1 : Word) :
    (s.setResults r0 r1).hostOut = s.hostOut := rfl
@[simp] theorem State.setResults_refusalLog (r0 r1 : Word) :
    (s.setResults r0 r1).refusalLog = s.refusalLog := rfl
@[simp] theorem State.setResults_draws (r0 r1 : Word) : (s.setResults r0 r1).draws = s.draws := rfl
@[simp] theorem State.setResults_resets (r0 r1 : Word) : (s.setResults r0 r1).resets = s.resets := rfl

/-! ### State.setFb -/

@[simp] theorem State.setFb_arg0 (m : Memory) : (s.setFb m).arg0 = s.arg0 := rfl
@[simp] theorem State.setFb_arg1 (m : Memory) : (s.setFb m).arg1 = s.arg1 := rfl
@[simp] theorem State.setFb_res0 (m : Memory) : (s.setFb m).res0 = s.res0 := rfl
@[simp] theorem State.setFb_res1 (m : Memory) : (s.setFb m).res1 = s.res1 := rfl
@[simp] theorem State.setFb_arg0Written (m : Memory) :
    (s.setFb m).arg0Written = s.arg0Written := rfl
@[simp] theorem State.setFb_arg1Written (m : Memory) :
    (s.setFb m).arg1Written = s.arg1Written := rfl
@[simp] theorem State.setFb_res0Written (m : Memory) :
    (s.setFb m).res0Written = s.res0Written := rfl
@[simp] theorem State.setFb_res1Written (m : Memory) :
    (s.setFb m).res1Written = s.res1Written := rfl
@[simp] theorem State.setFb_status (m : Memory) : (s.setFb m).status = s.status := rfl
@[simp] theorem State.setFb_geom (m : Memory) : (s.setFb m).geom = s.geom := rfl
@[simp] theorem State.setFb_cfg (m : Memory) : (s.setFb m).cfg = s.cfg := rfl
@[simp] theorem State.setFb_bufsize (m : Memory) : (s.setFb m).bufsize = s.bufsize := rfl
@[simp] theorem State.setFb_window (m : Memory) : (s.setFb m).window = s.window := rfl
@[simp] theorem State.setFb_coordMap (m : Memory) : (s.setFb m).coordMap = s.coordMap := rfl
@[simp] theorem State.setFb_fb (m : Memory) : (s.setFb m).fb = m := rfl
@[simp] theorem State.setFb_lines (m : Memory) : (s.setFb m).lines = s.lines := rfl
@[simp] theorem State.setFb_trace (m : Memory) : (s.setFb m).trace = s.trace := rfl
@[simp] theorem State.setFb_panelAsleep (m : Memory) :
    (s.setFb m).panelAsleep = s.panelAsleep := rfl
@[simp] theorem State.setFb_refused (m : Memory) : (s.setFb m).refused = s.refused := rfl
@[simp] theorem State.setFb_faults (m : Memory) : (s.setFb m).faults = s.faults := rfl
@[simp] theorem State.setFb_hazards (m : Memory) : (s.setFb m).hazards = s.hazards := rfl
@[simp] theorem State.setFb_pending (m : Memory) : (s.setFb m).pending = s.pending := rfl
@[simp] theorem State.setFb_hostIn (m : Memory) : (s.setFb m).hostIn = s.hostIn := rfl
@[simp] theorem State.setFb_hostOut (m : Memory) : (s.setFb m).hostOut = s.hostOut := rfl
@[simp] theorem State.setFb_refusalLog (m : Memory) : (s.setFb m).refusalLog = s.refusalLog := rfl
@[simp] theorem State.setFb_draws (m : Memory) : (s.setFb m).draws = s.draws := rfl
@[simp] theorem State.setFb_resets (m : Memory) : (s.setFb m).resets = s.resets := rfl

/-! ### State.setAsleep -/

@[simp] theorem State.setAsleep_arg0 (b : Bool) : (s.setAsleep b).arg0 = s.arg0 := rfl
@[simp] theorem State.setAsleep_arg1 (b : Bool) : (s.setAsleep b).arg1 = s.arg1 := rfl
@[simp] theorem State.setAsleep_res0 (b : Bool) : (s.setAsleep b).res0 = s.res0 := rfl
@[simp] theorem State.setAsleep_res1 (b : Bool) : (s.setAsleep b).res1 = s.res1 := rfl
@[simp] theorem State.setAsleep_arg0Written (b : Bool) :
    (s.setAsleep b).arg0Written = s.arg0Written := rfl
@[simp] theorem State.setAsleep_arg1Written (b : Bool) :
    (s.setAsleep b).arg1Written = s.arg1Written := rfl
@[simp] theorem State.setAsleep_res0Written (b : Bool) :
    (s.setAsleep b).res0Written = s.res0Written := rfl
@[simp] theorem State.setAsleep_res1Written (b : Bool) :
    (s.setAsleep b).res1Written = s.res1Written := rfl
@[simp] theorem State.setAsleep_status (b : Bool) : (s.setAsleep b).status = s.status := rfl
@[simp] theorem State.setAsleep_geom (b : Bool) : (s.setAsleep b).geom = s.geom := rfl
@[simp] theorem State.setAsleep_cfg (b : Bool) : (s.setAsleep b).cfg = s.cfg := rfl
@[simp] theorem State.setAsleep_bufsize (b : Bool) : (s.setAsleep b).bufsize = s.bufsize := rfl
@[simp] theorem State.setAsleep_window (b : Bool) : (s.setAsleep b).window = s.window := rfl
@[simp] theorem State.setAsleep_coordMap (b : Bool) : (s.setAsleep b).coordMap = s.coordMap := rfl
@[simp] theorem State.setAsleep_fb (b : Bool) : (s.setAsleep b).fb = s.fb := rfl
@[simp] theorem State.setAsleep_lines (b : Bool) : (s.setAsleep b).lines = s.lines := rfl
@[simp] theorem State.setAsleep_trace (b : Bool) : (s.setAsleep b).trace = s.trace := rfl
@[simp] theorem State.setAsleep_panelAsleep (b : Bool) : (s.setAsleep b).panelAsleep = b := rfl
@[simp] theorem State.setAsleep_refused (b : Bool) : (s.setAsleep b).refused = s.refused := rfl
@[simp] theorem State.setAsleep_faults (b : Bool) : (s.setAsleep b).faults = s.faults := rfl
@[simp] theorem State.setAsleep_hazards (b : Bool) : (s.setAsleep b).hazards = s.hazards := rfl
@[simp] theorem State.setAsleep_pending (b : Bool) : (s.setAsleep b).pending = s.pending := rfl
@[simp] theorem State.setAsleep_hostIn (b : Bool) : (s.setAsleep b).hostIn = s.hostIn := rfl
@[simp] theorem State.setAsleep_hostOut (b : Bool) : (s.setAsleep b).hostOut = s.hostOut := rfl
@[simp] theorem State.setAsleep_refusalLog (b : Bool) :
    (s.setAsleep b).refusalLog = s.refusalLog := rfl
@[simp] theorem State.setAsleep_draws (b : Bool) : (s.setAsleep b).draws = s.draws := rfl
@[simp] theorem State.setAsleep_resets (b : Bool) : (s.setAsleep b).resets = s.resets := rfl

/-! ### State.setReady -/

@[simp] theorem State.setReady_arg0 : s.setReady.arg0 = s.arg0 := rfl
@[simp] theorem State.setReady_arg1 : s.setReady.arg1 = s.arg1 := rfl
@[simp] theorem State.setReady_res0 : s.setReady.res0 = s.res0 := rfl
@[simp] theorem State.setReady_res1 : s.setReady.res1 = s.res1 := rfl
@[simp] theorem State.setReady_arg0Written : s.setReady.arg0Written = s.arg0Written := rfl
@[simp] theorem State.setReady_arg1Written : s.setReady.arg1Written = s.arg1Written := rfl
@[simp] theorem State.setReady_res0Written : s.setReady.res0Written = s.res0Written := rfl
@[simp] theorem State.setReady_res1Written : s.setReady.res1Written = s.res1Written := rfl
@[simp] theorem State.setReady_status : s.setReady.status = { s.status with state := .ready } := rfl
@[simp] theorem State.setReady_geom : s.setReady.geom = s.geom := rfl
@[simp] theorem State.setReady_cfg : s.setReady.cfg = s.cfg := rfl
@[simp] theorem State.setReady_bufsize : s.setReady.bufsize = s.bufsize := rfl
@[simp] theorem State.setReady_window : s.setReady.window = s.window := rfl
@[simp] theorem State.setReady_coordMap : s.setReady.coordMap = s.coordMap := rfl
@[simp] theorem State.setReady_fb : s.setReady.fb = s.fb := rfl
@[simp] theorem State.setReady_lines : s.setReady.lines = s.lines := rfl
@[simp] theorem State.setReady_trace : s.setReady.trace = s.trace := rfl
@[simp] theorem State.setReady_panelAsleep : s.setReady.panelAsleep = s.panelAsleep := rfl
@[simp] theorem State.setReady_refused : s.setReady.refused = s.refused := rfl
@[simp] theorem State.setReady_faults : s.setReady.faults = s.faults := rfl
@[simp] theorem State.setReady_hazards : s.setReady.hazards = s.hazards := rfl
@[simp] theorem State.setReady_pending : s.setReady.pending = s.pending := rfl
@[simp] theorem State.setReady_hostIn : s.setReady.hostIn = s.hostIn := rfl
@[simp] theorem State.setReady_hostOut : s.setReady.hostOut = s.hostOut := rfl
@[simp] theorem State.setReady_refusalLog : s.setReady.refusalLog = s.refusalLog := rfl
@[simp] theorem State.setReady_draws : s.setReady.draws = s.draws := rfl
@[simp] theorem State.setReady_resets : s.setReady.resets = s.resets := rfl

/-! ### State.reply -/

@[simp] theorem State.reply_arg0 (o : BitVec 6) (v : Word) : (s.reply o v).arg0 = s.arg0 := rfl
@[simp] theorem State.reply_arg1 (o : BitVec 6) (v : Word) : (s.reply o v).arg1 = s.arg1 := rfl
@[simp] theorem State.reply_res0 (o : BitVec 6) (v : Word) : (s.reply o v).res0 = s.res0 := rfl
@[simp] theorem State.reply_res1 (o : BitVec 6) (v : Word) : (s.reply o v).res1 = s.res1 := rfl
@[simp] theorem State.reply_arg0Written (o : BitVec 6) (v : Word) :
    (s.reply o v).arg0Written = s.arg0Written := rfl
@[simp] theorem State.reply_arg1Written (o : BitVec 6) (v : Word) :
    (s.reply o v).arg1Written = s.arg1Written := rfl
@[simp] theorem State.reply_res0Written (o : BitVec 6) (v : Word) :
    (s.reply o v).res0Written = s.res0Written := rfl
@[simp] theorem State.reply_res1Written (o : BitVec 6) (v : Word) :
    (s.reply o v).res1Written = s.res1Written := rfl
@[simp] theorem State.reply_status (o : BitVec 6) (v : Word) :
    (s.reply o v).status = s.status := rfl
@[simp] theorem State.reply_geom (o : BitVec 6) (v : Word) : (s.reply o v).geom = s.geom := rfl
@[simp] theorem State.reply_cfg (o : BitVec 6) (v : Word) : (s.reply o v).cfg = s.cfg := rfl
@[simp] theorem State.reply_bufsize (o : BitVec 6) (v : Word) :
    (s.reply o v).bufsize = s.bufsize := rfl
@[simp] theorem State.reply_window (o : BitVec 6) (v : Word) :
    (s.reply o v).window = s.window := rfl
@[simp] theorem State.reply_coordMap (o : BitVec 6) (v : Word) :
    (s.reply o v).coordMap = s.coordMap := rfl
@[simp] theorem State.reply_fb (o : BitVec 6) (v : Word) : (s.reply o v).fb = s.fb := rfl
@[simp] theorem State.reply_lines (o : BitVec 6) (v : Word) : (s.reply o v).lines = s.lines := rfl
@[simp] theorem State.reply_trace (o : BitVec 6) (v : Word) : (s.reply o v).trace = s.trace := rfl
@[simp] theorem State.reply_panelAsleep (o : BitVec 6) (v : Word) :
    (s.reply o v).panelAsleep = s.panelAsleep := rfl
@[simp] theorem State.reply_refused (o : BitVec 6) (v : Word) :
    (s.reply o v).refused = s.refused := rfl
@[simp] theorem State.reply_faults (o : BitVec 6) (v : Word) :
    (s.reply o v).faults = s.faults := rfl
@[simp] theorem State.reply_hazards (o : BitVec 6) (v : Word) :
    (s.reply o v).hazards = s.hazards := rfl
@[simp] theorem State.reply_pending (o : BitVec 6) (v : Word) :
    (s.reply o v).pending = s.pending := rfl
@[simp] theorem State.reply_hostIn (o : BitVec 6) (v : Word) :
    (s.reply o v).hostIn = s.hostIn := rfl
@[simp] theorem State.reply_hostOut (o : BitVec 6) (v : Word) :
    (s.reply o v).hostOut = s.hostOut ++ [⟨o, v⟩] := rfl
@[simp] theorem State.reply_refusalLog (o : BitVec 6) (v : Word) :
    (s.reply o v).refusalLog = s.refusalLog := rfl
@[simp] theorem State.reply_draws (o : BitVec 6) (v : Word) : (s.reply o v).draws = s.draws := rfl
@[simp] theorem State.reply_resets (o : BitVec 6) (v : Word) : (s.reply o v).resets = s.resets := rfl

/-! ### State.writeArg0 -/

@[simp] theorem State.writeArg0_arg0 (v : Word) : (s.writeArg0 v).arg0 = v := rfl
@[simp] theorem State.writeArg0_arg1 (v : Word) : (s.writeArg0 v).arg1 = s.arg1 := rfl
@[simp] theorem State.writeArg0_res0 (v : Word) : (s.writeArg0 v).res0 = s.res0 := rfl
@[simp] theorem State.writeArg0_res1 (v : Word) : (s.writeArg0 v).res1 = s.res1 := rfl
@[simp] theorem State.writeArg0_arg0Written (v : Word) : (s.writeArg0 v).arg0Written = true := rfl
@[simp] theorem State.writeArg0_arg1Written (v : Word) :
    (s.writeArg0 v).arg1Written = s.arg1Written := rfl
@[simp] theorem State.writeArg0_res0Written (v : Word) :
    (s.writeArg0 v).res0Written = s.res0Written := rfl
@[simp] theorem State.writeArg0_res1Written (v : Word) :
    (s.writeArg0 v).res1Written = s.res1Written := rfl
@[simp] theorem State.writeArg0_status (v : Word) : (s.writeArg0 v).status = s.status := rfl
@[simp] theorem State.writeArg0_geom (v : Word) : (s.writeArg0 v).geom = s.geom := rfl
@[simp] theorem State.writeArg0_cfg (v : Word) : (s.writeArg0 v).cfg = s.cfg := rfl
@[simp] theorem State.writeArg0_bufsize (v : Word) : (s.writeArg0 v).bufsize = s.bufsize := rfl
@[simp] theorem State.writeArg0_window (v : Word) : (s.writeArg0 v).window = s.window := rfl
@[simp] theorem State.writeArg0_coordMap (v : Word) : (s.writeArg0 v).coordMap = s.coordMap := rfl
@[simp] theorem State.writeArg0_fb (v : Word) : (s.writeArg0 v).fb = s.fb := rfl
@[simp] theorem State.writeArg0_lines (v : Word) : (s.writeArg0 v).lines = s.lines := rfl
@[simp] theorem State.writeArg0_trace (v : Word) : (s.writeArg0 v).trace = s.trace := rfl
@[simp] theorem State.writeArg0_panelAsleep (v : Word) :
    (s.writeArg0 v).panelAsleep = s.panelAsleep := rfl
@[simp] theorem State.writeArg0_refused (v : Word) : (s.writeArg0 v).refused = s.refused := rfl
@[simp] theorem State.writeArg0_faults (v : Word) : (s.writeArg0 v).faults = s.faults := rfl
@[simp] theorem State.writeArg0_hazards (v : Word) : (s.writeArg0 v).hazards = s.hazards := rfl
@[simp] theorem State.writeArg0_pending (v : Word) : (s.writeArg0 v).pending = s.pending := rfl
@[simp] theorem State.writeArg0_hostIn (v : Word) : (s.writeArg0 v).hostIn = s.hostIn := rfl
@[simp] theorem State.writeArg0_hostOut (v : Word) : (s.writeArg0 v).hostOut = s.hostOut := rfl
@[simp] theorem State.writeArg0_refusalLog (v : Word) :
    (s.writeArg0 v).refusalLog = s.refusalLog := rfl
@[simp] theorem State.writeArg0_draws (v : Word) : (s.writeArg0 v).draws = s.draws := rfl
@[simp] theorem State.writeArg0_resets (v : Word) : (s.writeArg0 v).resets = s.resets := rfl

/-! ### State.writeArg1 -/

@[simp] theorem State.writeArg1_arg0 (v : Word) : (s.writeArg1 v).arg0 = s.arg0 := rfl
@[simp] theorem State.writeArg1_arg1 (v : Word) : (s.writeArg1 v).arg1 = v := rfl
@[simp] theorem State.writeArg1_res0 (v : Word) : (s.writeArg1 v).res0 = s.res0 := rfl
@[simp] theorem State.writeArg1_res1 (v : Word) : (s.writeArg1 v).res1 = s.res1 := rfl
@[simp] theorem State.writeArg1_arg0Written (v : Word) :
    (s.writeArg1 v).arg0Written = s.arg0Written := rfl
@[simp] theorem State.writeArg1_arg1Written (v : Word) : (s.writeArg1 v).arg1Written = true := rfl
@[simp] theorem State.writeArg1_res0Written (v : Word) :
    (s.writeArg1 v).res0Written = s.res0Written := rfl
@[simp] theorem State.writeArg1_res1Written (v : Word) :
    (s.writeArg1 v).res1Written = s.res1Written := rfl
@[simp] theorem State.writeArg1_status (v : Word) : (s.writeArg1 v).status = s.status := rfl
@[simp] theorem State.writeArg1_geom (v : Word) : (s.writeArg1 v).geom = s.geom := rfl
@[simp] theorem State.writeArg1_cfg (v : Word) : (s.writeArg1 v).cfg = s.cfg := rfl
@[simp] theorem State.writeArg1_bufsize (v : Word) : (s.writeArg1 v).bufsize = s.bufsize := rfl
@[simp] theorem State.writeArg1_window (v : Word) : (s.writeArg1 v).window = s.window := rfl
@[simp] theorem State.writeArg1_coordMap (v : Word) : (s.writeArg1 v).coordMap = s.coordMap := rfl
@[simp] theorem State.writeArg1_fb (v : Word) : (s.writeArg1 v).fb = s.fb := rfl
@[simp] theorem State.writeArg1_lines (v : Word) : (s.writeArg1 v).lines = s.lines := rfl
@[simp] theorem State.writeArg1_trace (v : Word) : (s.writeArg1 v).trace = s.trace := rfl
@[simp] theorem State.writeArg1_panelAsleep (v : Word) :
    (s.writeArg1 v).panelAsleep = s.panelAsleep := rfl
@[simp] theorem State.writeArg1_refused (v : Word) : (s.writeArg1 v).refused = s.refused := rfl
@[simp] theorem State.writeArg1_faults (v : Word) : (s.writeArg1 v).faults = s.faults := rfl
@[simp] theorem State.writeArg1_hazards (v : Word) : (s.writeArg1 v).hazards = s.hazards := rfl
@[simp] theorem State.writeArg1_pending (v : Word) : (s.writeArg1 v).pending = s.pending := rfl
@[simp] theorem State.writeArg1_hostIn (v : Word) : (s.writeArg1 v).hostIn = s.hostIn := rfl
@[simp] theorem State.writeArg1_hostOut (v : Word) : (s.writeArg1 v).hostOut = s.hostOut := rfl
@[simp] theorem State.writeArg1_refusalLog (v : Word) :
    (s.writeArg1 v).refusalLog = s.refusalLog := rfl
@[simp] theorem State.writeArg1_draws (v : Word) : (s.writeArg1 v).draws = s.draws := rfl
@[simp] theorem State.writeArg1_resets (v : Word) : (s.writeArg1 v).resets = s.resets := rfl

/-! ### State.startOp -/

@[simp] theorem State.startOp_arg0 (c : Word) : (s.startOp c).arg0 = s.arg0 := rfl
@[simp] theorem State.startOp_arg1 (c : Word) : (s.startOp c).arg1 = s.arg1 := rfl
@[simp] theorem State.startOp_res0 (c : Word) : (s.startOp c).res0 = s.res0 := rfl
@[simp] theorem State.startOp_res1 (c : Word) : (s.startOp c).res1 = s.res1 := rfl
@[simp] theorem State.startOp_arg0Written (c : Word) :
    (s.startOp c).arg0Written = s.arg0Written := rfl
@[simp] theorem State.startOp_arg1Written (c : Word) :
    (s.startOp c).arg1Written = s.arg1Written := rfl
@[simp] theorem State.startOp_res0Written (c : Word) :
    (s.startOp c).res0Written = s.res0Written := rfl
@[simp] theorem State.startOp_res1Written (c : Word) :
    (s.startOp c).res1Written = s.res1Written := rfl
@[simp] theorem State.startOp_status (c : Word) :
    (s.startOp c).status = { s.status with busy := true } := rfl
@[simp] theorem State.startOp_geom (c : Word) : (s.startOp c).geom = s.geom := rfl
@[simp] theorem State.startOp_cfg (c : Word) : (s.startOp c).cfg = s.cfg := rfl
@[simp] theorem State.startOp_bufsize (c : Word) : (s.startOp c).bufsize = s.bufsize := rfl
@[simp] theorem State.startOp_window (c : Word) : (s.startOp c).window = s.window := rfl
@[simp] theorem State.startOp_coordMap (c : Word) : (s.startOp c).coordMap = s.coordMap := rfl
@[simp] theorem State.startOp_fb (c : Word) : (s.startOp c).fb = s.fb := rfl
@[simp] theorem State.startOp_lines (c : Word) : (s.startOp c).lines = s.lines := rfl
@[simp] theorem State.startOp_trace (c : Word) : (s.startOp c).trace = s.trace := rfl
@[simp] theorem State.startOp_panelAsleep (c : Word) :
    (s.startOp c).panelAsleep = s.panelAsleep := rfl
@[simp] theorem State.startOp_refused (c : Word) : (s.startOp c).refused = s.refused := rfl
@[simp] theorem State.startOp_faults (c : Word) : (s.startOp c).faults = s.faults := rfl
@[simp] theorem State.startOp_hazards (c : Word) : (s.startOp c).hazards = s.hazards := rfl
@[simp] theorem State.startOp_pending (c : Word) : (s.startOp c).pending = some c := rfl
@[simp] theorem State.startOp_hostIn (c : Word) : (s.startOp c).hostIn = s.hostIn := rfl
@[simp] theorem State.startOp_hostOut (c : Word) : (s.startOp c).hostOut = s.hostOut := rfl
@[simp] theorem State.startOp_refusalLog (c : Word) : (s.startOp c).refusalLog = s.refusalLog := rfl
@[simp] theorem State.startOp_draws (c : Word) : (s.startOp c).draws = s.draws := rfl
@[simp] theorem State.startOp_resets (c : Word) : (s.startOp c).resets = s.resets := rfl

/-! ### State.setInputs -/

@[simp] theorem State.setInputs_arg0 (rest : List HostInput) :
    (s.setInputs rest).arg0 = s.arg0 := rfl
@[simp] theorem State.setInputs_arg1 (rest : List HostInput) :
    (s.setInputs rest).arg1 = s.arg1 := rfl
@[simp] theorem State.setInputs_res0 (rest : List HostInput) :
    (s.setInputs rest).res0 = s.res0 := rfl
@[simp] theorem State.setInputs_res1 (rest : List HostInput) :
    (s.setInputs rest).res1 = s.res1 := rfl
@[simp] theorem State.setInputs_arg0Written (rest : List HostInput) :
    (s.setInputs rest).arg0Written = s.arg0Written := rfl
@[simp] theorem State.setInputs_arg1Written (rest : List HostInput) :
    (s.setInputs rest).arg1Written = s.arg1Written := rfl
@[simp] theorem State.setInputs_res0Written (rest : List HostInput) :
    (s.setInputs rest).res0Written = s.res0Written := rfl
@[simp] theorem State.setInputs_res1Written (rest : List HostInput) :
    (s.setInputs rest).res1Written = s.res1Written := rfl
@[simp] theorem State.setInputs_status (rest : List HostInput) :
    (s.setInputs rest).status = s.status := rfl
@[simp] theorem State.setInputs_geom (rest : List HostInput) :
    (s.setInputs rest).geom = s.geom := rfl
@[simp] theorem State.setInputs_cfg (rest : List HostInput) : (s.setInputs rest).cfg = s.cfg := rfl
@[simp] theorem State.setInputs_bufsize (rest : List HostInput) :
    (s.setInputs rest).bufsize = s.bufsize := rfl
@[simp] theorem State.setInputs_window (rest : List HostInput) :
    (s.setInputs rest).window = s.window := rfl
@[simp] theorem State.setInputs_coordMap (rest : List HostInput) :
    (s.setInputs rest).coordMap = s.coordMap := rfl
@[simp] theorem State.setInputs_fb (rest : List HostInput) : (s.setInputs rest).fb = s.fb := rfl
@[simp] theorem State.setInputs_lines (rest : List HostInput) :
    (s.setInputs rest).lines = s.lines := rfl
@[simp] theorem State.setInputs_trace (rest : List HostInput) :
    (s.setInputs rest).trace = s.trace := rfl
@[simp] theorem State.setInputs_panelAsleep (rest : List HostInput) :
    (s.setInputs rest).panelAsleep = s.panelAsleep := rfl
@[simp] theorem State.setInputs_refused (rest : List HostInput) :
    (s.setInputs rest).refused = s.refused := rfl
@[simp] theorem State.setInputs_faults (rest : List HostInput) :
    (s.setInputs rest).faults = s.faults := rfl
@[simp] theorem State.setInputs_hazards (rest : List HostInput) :
    (s.setInputs rest).hazards = s.hazards := rfl
@[simp] theorem State.setInputs_pending (rest : List HostInput) :
    (s.setInputs rest).pending = s.pending := rfl
@[simp] theorem State.setInputs_hostIn (rest : List HostInput) :
    (s.setInputs rest).hostIn = rest := rfl
@[simp] theorem State.setInputs_hostOut (rest : List HostInput) :
    (s.setInputs rest).hostOut = s.hostOut := rfl
@[simp] theorem State.setInputs_refusalLog (rest : List HostInput) :
    (s.setInputs rest).refusalLog = s.refusalLog := rfl
@[simp] theorem State.setInputs_draws (rest : List HostInput) :
    (s.setInputs rest).draws = s.draws := rfl
@[simp] theorem State.setInputs_resets (rest : List HostInput) :
    (s.setInputs rest).resets = s.resets := rfl

/-! ### State.noteFlush: only HAZARDS can change -/

@[simp] theorem State.noteFlush_arg0 : s.noteFlush.arg0 = s.arg0 := by
  unfold State.noteFlush; split <;> rfl
@[simp] theorem State.noteFlush_arg1 : s.noteFlush.arg1 = s.arg1 := by
  unfold State.noteFlush; split <;> rfl
@[simp] theorem State.noteFlush_res0 : s.noteFlush.res0 = s.res0 := by
  unfold State.noteFlush; split <;> rfl
@[simp] theorem State.noteFlush_res1 : s.noteFlush.res1 = s.res1 := by
  unfold State.noteFlush; split <;> rfl
@[simp] theorem State.noteFlush_arg0Written : s.noteFlush.arg0Written = s.arg0Written := by
  unfold State.noteFlush; split <;> rfl
@[simp] theorem State.noteFlush_arg1Written : s.noteFlush.arg1Written = s.arg1Written := by
  unfold State.noteFlush; split <;> rfl
@[simp] theorem State.noteFlush_res0Written : s.noteFlush.res0Written = s.res0Written := by
  unfold State.noteFlush; split <;> rfl
@[simp] theorem State.noteFlush_res1Written : s.noteFlush.res1Written = s.res1Written := by
  unfold State.noteFlush; split <;> rfl
@[simp] theorem State.noteFlush_status : s.noteFlush.status = s.status := by
  unfold State.noteFlush; split <;> rfl
@[simp] theorem State.noteFlush_geom : s.noteFlush.geom = s.geom := by
  unfold State.noteFlush; split <;> rfl
@[simp] theorem State.noteFlush_cfg : s.noteFlush.cfg = s.cfg := by
  unfold State.noteFlush; split <;> rfl
@[simp] theorem State.noteFlush_bufsize : s.noteFlush.bufsize = s.bufsize := by
  unfold State.noteFlush; split <;> rfl
@[simp] theorem State.noteFlush_window : s.noteFlush.window = s.window := by
  unfold State.noteFlush; split <;> rfl
@[simp] theorem State.noteFlush_coordMap : s.noteFlush.coordMap = s.coordMap := by
  unfold State.noteFlush; split <;> rfl
@[simp] theorem State.noteFlush_fb : s.noteFlush.fb = s.fb := by
  unfold State.noteFlush; split <;> rfl
@[simp] theorem State.noteFlush_lines : s.noteFlush.lines = s.lines := by
  unfold State.noteFlush; split <;> rfl
@[simp] theorem State.noteFlush_trace : s.noteFlush.trace = s.trace := by
  unfold State.noteFlush; split <;> rfl
@[simp] theorem State.noteFlush_panelAsleep : s.noteFlush.panelAsleep = s.panelAsleep := by
  unfold State.noteFlush; split <;> rfl
@[simp] theorem State.noteFlush_refused : s.noteFlush.refused = s.refused := by
  unfold State.noteFlush; split <;> rfl
@[simp] theorem State.noteFlush_faults : s.noteFlush.faults = s.faults := by
  unfold State.noteFlush; split <;> rfl
theorem State.noteFlush_hazards : s.noteFlush.hazards =
    if s.panelAsleep then (s.addHazard .flushWhileAsleep).hazards else s.hazards := by
  unfold State.noteFlush; split <;> rfl
@[simp] theorem State.noteFlush_pending : s.noteFlush.pending = s.pending := by
  unfold State.noteFlush; split <;> rfl
@[simp] theorem State.noteFlush_hostIn : s.noteFlush.hostIn = s.hostIn := by
  unfold State.noteFlush; split <;> rfl
@[simp] theorem State.noteFlush_hostOut : s.noteFlush.hostOut = s.hostOut := by
  unfold State.noteFlush; split <;> rfl
@[simp] theorem State.noteFlush_refusalLog : s.noteFlush.refusalLog = s.refusalLog := by
  unfold State.noteFlush; split <;> rfl
@[simp] theorem State.noteFlush_draws : s.noteFlush.draws = s.draws := by
  unfold State.noteFlush; split <;> rfl
@[simp] theorem State.noteFlush_resets : s.noteFlush.resets = s.resets := by
  unfold State.noteFlush; split <;> rfl

/-! ### The geometry an update leaves readable -/

theorem State.width_congr {s t : State} (h : t.geom = s.geom) : t.width = s.width := by
  simp [State.width, h]

theorem State.height_congr {s t : State} (h : t.geom = s.geom) : t.height = s.height := by
  simp [State.height, h]

theorem State.orient_congr {s t : State} (h : t.cfg = s.cfg) : t.orient = s.orient := by
  simp [State.orient, h]

theorem State.model_congr {s t : State} (h : t.cfg = s.cfg) : t.model = s.model := by
  simp [State.model, h]

end Sys2Proof.Machine
end

