-- ==== Sys2Proof/Laws/Memory.lean ====
section
/-! SUPPORT. The framebuffer's laws: what a read gives after a write, a creation or a fill, and that
every operation keeps the canonical form. -/

namespace Sys2Proof.Machine

/-- The addresses that have a byte. -/
def Memory.addresses (m : Memory) : List Nat := m.cells.map Prod.fst

/-! ### Reading a list of cells -/

theorem lookup_isSome_iff (cells : List Host.Cell) (a : Nat) :
    (cells.lookup a).isSome = true ↔ a ∈ cells.map Prod.fst := by
  induction cells with
  | nil => simp
  | cons c t ih =>
    obtain ⟨b, v⟩ := c
    by_cases h : a = b
    · subst h; simp
    · have : (a == b) = false := by simpa using h
      simp [List.lookup_cons, this, ih, h]

theorem lookup_map_write (cells : List Host.Cell) (a b : Nat) (v : Byte) :
    (cells.map fun c => if c.1 = a then (c.1, v) else c).lookup b =
      if b = a then (cells.lookup a).map (fun _ => v) else cells.lookup b := by
  induction cells with
  | nil => simp
  | cons c t ih =>
    obtain ⟨k, w⟩ := c
    by_cases hk : k = a
    · subst hk
      by_cases hb : b = k
      · subst hb; simp
      · have : (b == k) = false := by simpa using hb
        simp [List.lookup_cons, this, ih, hb]
    · by_cases hb : b = k
      · subst hb; simp [hk]
      · have h1 : (b == k) = false := by simpa using hb
        have h2 : (a == k) = false := by simpa using fun h => hk h.symm
        simp [List.lookup_cons, h1, h2, ih, hk]

theorem Memory.read_isSome_iff (m : Memory) (a : Nat) :
    (m.read a).isSome = true ↔ a ∈ m.addresses :=
  lookup_isSome_iff m.cells a

/-! ### Write -/

theorem Memory.write_eq_some {m m' : Memory} {a : Nat} {v : Byte} :
    m.write a v = some m' ↔
      (m.read a).isSome = true ∧ m' = ⟨m.cells.map fun c => if c.1 = a then (c.1, v) else c⟩ := by
  unfold Memory.write
  split <;> rename_i h <;> simp [h, eq_comm]

theorem Memory.write_isSome (m : Memory) (a : Nat) (v : Byte) :
    (m.write a v).isSome = (m.read a).isSome := by
  unfold Memory.write
  split <;> rename_i h
  · simp [h]
  · simpa using h

/-- A read after a write: the value at the written address, what was there anywhere else. -/
theorem Memory.read_write {m m' : Memory} {a : Nat} {v : Byte} (h : m.write a v = some m')
    (b : Nat) : m'.read b = if b = a then some v else m.read b := by
  obtain ⟨hs, rfl⟩ := Memory.write_eq_some.1 h
  simp only [Memory.read, lookup_map_write]
  split
  · obtain ⟨w, hw⟩ := Option.isSome_iff_exists.1 hs
    have hw' : List.lookup a m.cells = some w := hw
    simp [hw']
  · rfl

theorem Memory.write_addresses {m m' : Memory} {a : Nat} {v : Byte} (h : m.write a v = some m') :
    m'.addresses = m.addresses := by
  obtain ⟨-, rfl⟩ := Memory.write_eq_some.1 h
  simp only [Memory.addresses, List.map_map]
  apply List.map_congr_left
  intro c _
  simp only [Function.comp]
  split <;> rfl

/-! ### The canonical form -/

/-- The canonical form is a fact about the addresses alone. -/
theorem Memory.wf_iff (m : Memory) : m.wf = true ↔ m.addresses.Pairwise (· < ·) := by
  simp [Memory.wf, Memory.addresses, List.pairwise_map]

theorem Memory.wf_of_addresses {m m' : Memory} (h : m'.addresses = m.addresses)
    (hm : m.wf = true) : m'.wf = true := by
  rw [Memory.wf_iff] at *
  rwa [h]

theorem Memory.write_keeps_wf {m m' : Memory} {a : Nat} {v : Byte} (h : m.write a v = some m')
    (hm : m.wf = true) : m'.wf = true :=
  Memory.wf_of_addresses (Memory.write_addresses h) hm

theorem Memory.create_addresses (n : Nat) (init : Nat → Byte) :
    (Memory.create n init).addresses = List.range n := by
  simp [Memory.create, Memory.addresses, Function.comp_def]

theorem Memory.create_wf (n : Nat) (init : Nat → Byte) : (Memory.create n init).wf = true := by
  rw [Memory.wf_iff, Memory.create_addresses]
  exact List.pairwise_lt_range

theorem Memory.reset_wf : State.reset.fb.wf = true := by decide

/-- What a memory reads as is all there is to it, address by address. -/
theorem Memory.ext_of_read {m m' : Memory} (hm : m.wf = true)
    (ha : m'.addresses = m.addresses) (h : ∀ a, m'.read a = m.read a) : m' = m := by
  obtain ⟨cs⟩ := m
  obtain ⟨cs'⟩ := m'
  rw [Memory.wf_iff] at hm
  simp only [Memory.addresses, Memory.read, Memory.mk.injEq] at *
  induction cs generalizing cs' with
  | nil => simpa using ha
  | cons c t ih =>
    obtain ⟨k, v⟩ := c
    match cs' with
    | [] => simp at ha
    | (k', v') :: t' =>
      simp only [List.map_cons, List.cons.injEq] at ha
      obtain ⟨rfl, ha⟩ := ha
      simp only [List.map_cons, List.pairwise_cons] at hm
      have hv : v' = v := by simpa using h k'
      subst hv
      rw [ih hm.2 t' ha]
      intro a
      by_cases hak : a = k'
      · subst hak
        have hnot : a ∉ t.map Prod.fst := fun hmem => absurd (hm.1 a hmem) (lt_irrefl a)
        have h1 : List.lookup a t = none := by
          cases hl : List.lookup a t with
          | none => rfl
          | some w => exact absurd ((lookup_isSome_iff t a).1 (by simp [hl])) hnot
        have h2 : List.lookup a t' = none := by
          cases hl : List.lookup a t' with
          | none => rfl
          | some w => exact absurd ((lookup_isSome_iff t' a).1 (by simp [hl])) (ha ▸ hnot)
        rw [h1, h2]
      · have hne : (a == k') = false := by simpa using hak
        simpa [List.lookup_cons, hne] using h a

/-! ### Dense memory -/

theorem Memory.dense_iff {m : Memory} {n : Nat} : m.Dense n ↔ m.addresses = List.range n := Iff.rfl

theorem Memory.Dense.read_isSome {m : Memory} {n : Nat} (h : m.Dense n) (a : Nat) :
    (m.read a).isSome = true ↔ a < n := by
  rw [Memory.read_isSome_iff, Memory.dense_iff.1 h, List.mem_range]

theorem Memory.Dense.exists_read {m : Memory} {n a : Nat} (h : m.Dense n) (ha : a < n) :
    ∃ v, m.read a = some v :=
  Option.isSome_iff_exists.1 ((h.read_isSome a).2 ha)

theorem Memory.Dense.wf {m : Memory} {n : Nat} (h : m.Dense n) : m.wf = true := by
  rw [Memory.wf_iff, Memory.dense_iff.1 h]
  exact List.pairwise_lt_range

theorem Memory.create_dense (n : Nat) (init : Nat → Byte) : (Memory.create n init).Dense n :=
  Memory.create_addresses n init

theorem Memory.write_dense {m m' : Memory} {a n : Nat} {v : Byte} (h : m.write a v = some m')
    (hm : m.Dense n) : m'.Dense n :=
  (Memory.write_addresses h).trans hm

theorem lookup_map_pair (l : List Nat) (init : Nat → Byte) (a : Nat) :
    (l.map fun i => ((i, init i) : Host.Cell)).lookup a = if a ∈ l then some (init a) else none := by
  induction l with
  | nil => simp
  | cons k t ih =>
    by_cases h : a = k
    · subst h; simp
    · have hne : (a == k) = false := by simpa using h
      simp [List.lookup_cons, hne, ih, h]

theorem Memory.create_read (n : Nat) (init : Nat → Byte) (a : Nat) :
    (Memory.create n init).read a = if a < n then some (init a) else none := by
  simp [Memory.create, Memory.read, lookup_map_pair]

/-! ### Fill -/

/-- What a fill that completes leaves: the same addresses, `v` below `n`, the rest as before. -/
theorem Memory.fill_spec {m m' : Memory} {n : Nat} {v : Byte} (h : m.fill n v = some m') :
    m'.addresses = m.addresses ∧ ∀ a, m'.read a = if a < n then some v else m.read a := by
  induction n generalizing m' with
  | zero => simp [Memory.fill] at h; subst h; simp
  | succ n ih =>
    rw [Memory.fill, List.range_succ, List.foldlM_append] at h
    simp only [List.foldlM_cons, List.foldlM_nil, bind_pure, Option.bind_eq_bind,
      Option.bind_eq_some_iff] at h
    obtain ⟨m₁, h₁, h₂⟩ := h
    obtain ⟨ha, hr⟩ := ih h₁
    refine ⟨(Memory.write_addresses h₂).trans ha, fun a => ?_⟩
    rw [Memory.read_write h₂, hr]
    by_cases h1 : a = n
    · simp [h1]
    · have : a < n + 1 ↔ a < n := by omega
      simp [h1, this]

theorem Memory.fill_keeps_wf {m m' : Memory} {n : Nat} {v : Byte} (h : m.fill n v = some m')
    (hm : m.wf = true) : m'.wf = true :=
  Memory.wf_of_addresses (Memory.fill_spec h).1 hm

theorem Memory.fill_isSome {m : Memory} {n k : Nat} (v : Byte) (hm : m.Dense k) (hn : n ≤ k) :
    ∃ m', m.fill n v = some m' := by
  induction n with
  | zero => exact ⟨m, by simp [Memory.fill]⟩
  | succ n ih =>
    obtain ⟨m₁, h₁⟩ := ih (by omega)
    have hd : m₁.Dense k := (Memory.fill_spec h₁).1.trans hm
    have hs : (m₁.write n v).isSome = true := by
      rw [Memory.write_isSome]; exact (hd.read_isSome n).2 (by omega)
    obtain ⟨m₂, h₂⟩ := Option.isSome_iff_exists.1 hs
    refine ⟨m₂, ?_⟩
    unfold Memory.fill at h₁ ⊢
    rw [List.range_succ, List.foldlM_append, h₁]
    simp [h₂]

/-- On FB as it is once configured, a fill is one creation: every byte is `v`. -/
theorem Memory.fill_dense {m : Memory} {n : Nat} (v : Byte) (hm : m.Dense n) :
    m.fill n v = some (Memory.create n fun _ => v) := by
  obtain ⟨m', h⟩ := Memory.fill_isSome v hm le_rfl
  obtain ⟨ha, hr⟩ := Memory.fill_spec h
  rw [h]
  congr 1
  refine Memory.ext_of_read (Memory.create_wf _ _) ?_ fun a => ?_
  · rw [ha, Memory.create_addresses]; exact hm
  · rw [hr, Memory.create_read]
    split
    · rfl
    · rename_i hlt
      have : ¬ (m.read a).isSome = true := by rw [hm.read_isSome]; exact hlt
      simpa using this

/-! ### Sequential load -/

theorem mapM_range_spec {f : Nat → Option Byte} {n : Nat} {l : List Byte}
    (h : (List.range n).mapM f = some l) : l.length = n ∧ ∀ i < n, f i = l[i]? := by
  induction n generalizing l with
  | zero => simp at h; subst h; simp
  | succ n ih =>
    rw [List.range_succ, List.mapM_append] at h
    simp only [List.mapM_cons, List.mapM_nil, Option.bind_eq_bind, Option.bind_eq_some_iff,
      Option.pure_def, Option.some.injEq] at h
    obtain ⟨l₁, h₁, l₂, ⟨b, hb, l₃, rfl, rfl⟩, rfl⟩ := h
    obtain ⟨hl, hi⟩ := ih h₁
    refine ⟨by simp [hl], fun i hlt => ?_⟩
    by_cases hin : i = n
    · subst hin; rw [hb, List.getElem?_append_right (by omega)]; simp [hl]
    · rw [hi i (by omega), List.getElem?_append_left (by omega)]

theorem mapM_range_isSome {f : Nat → Option Byte} {n : Nat} (h : ∀ i < n, (f i).isSome = true) :
    ∃ l, (List.range n).mapM f = some l := by
  induction n with
  | zero => exact ⟨[], by simp⟩
  | succ n ih =>
    obtain ⟨l, hl⟩ := ih fun i hi => h i (by omega)
    obtain ⟨b, hb⟩ := Option.isSome_iff_exists.1 (h n (by omega))
    exact ⟨l ++ [b], by rw [List.range_succ, List.mapM_append, hl]; simp [hb]⟩

/-- The loaded bytes are those at [0, n), in order. -/
theorem Memory.readAll_spec {m : Memory} {n : Nat} {l : List Byte} (h : m.readAll n = some l) :
    l.length = n ∧ ∀ i < n, m.read i = l[i]? :=
  mapM_range_spec h

theorem Memory.readAll_isSome {m : Memory} {n k : Nat} (hm : m.Dense k) (hn : n ≤ k) :
    ∃ l, m.readAll n = some l :=
  mapM_range_isSome fun i hi => (hm.read_isSome i).2 (by omega)

end Sys2Proof.Machine
end

