-- ==== Sys2Proof/Laws/Geometry.lean ====
section
/-! SUPPORT. Laws of the operands, the configured registers and the tables. -/

namespace Sys2Proof.Machine

/-! ### Words of the configured registers read back -/

theorem width_geomWord (w h : Nat) (hw : w < 65536) :
    ((geomWord w h).extractLsb' 0 16).toNat = w := by
  have : (geomWord w h).extractLsb' 0 16 = BitVec.ofNat 16 w := by
    ext i hi
    simp only [BitVec.getElem_extractLsb', geomWord, BitVec.getLsbD_setWidth, BitVec.getLsbD_append]
    simp [hi, show i < 32 by omega, BitVec.getLsbD_eq_getElem]
  rw [this]; simpa using Nat.mod_eq_of_lt hw

theorem height_geomWord (w h : Nat) (hh : h < 65536) :
    ((geomWord w h).extractLsb' 16 16).toNat = h := by
  have : (geomWord w h).extractLsb' 16 16 = BitVec.ofNat 16 h := by
    ext i hi
    simp only [BitVec.getElem_extractLsb', geomWord, BitVec.getLsbD_setWidth, BitVec.getLsbD_append]
    simp [hi, BitVec.getLsbD_eq_getElem]
    omega
  rw [this]; simpa using Nat.mod_eq_of_lt hh

theorem orient_cfgWord (o : BitVec 2) (m : Byte) : (cfgWord o m).extractLsb' 0 2 = o := by
  ext i hi
  simp only [BitVec.getElem_extractLsb', cfgWord, BitVec.getLsbD_setWidth, BitVec.getLsbD_append]
  interval_cases i <;> simp [BitVec.getLsbD_eq_getElem]

theorem model_cfgWord (o : BitVec 2) (m : Byte) : (cfgWord o m).extractLsb' 8 8 = m := by
  ext i hi
  simp only [BitVec.getElem_extractLsb', cfgWord, BitVec.getLsbD_setWidth, BitVec.getLsbD_append]
  interval_cases i <;> simp [BitVec.getLsbD_eq_getElem]

theorem windowOf_windowWord (w : Window) : windowOf (windowWord w) = w := by
  obtain ⟨a, b, c, d⟩ := w
  simp only [windowOf, windowWord, Window.mk.injEq]
  refine ⟨?_, ?_, ?_, ?_⟩ <;> ext i hi <;>
    simp only [BitVec.getElem_extractLsb', BitVec.getLsbD_setWidth, BitVec.getLsbD_append] <;>
    interval_cases i <;> simp [BitVec.getLsbD_eq_getElem]

theorem widthOperand_lt (v : Word) : widthOperand v < 65536 := (v.extractLsb' 0 16).isLt

theorem heightOperand_lt (v : Word) : heightOperand v < 65536 := (v.extractLsb' 16 16).isLt

/-- The geometry of a state whose registers CONFIGURE wrote. -/
theorem State.width_of_geom {s : State} {w h : Nat} (hg : s.geom = geomWord w h) (hw : w < 65536) :
    s.width = w := by
  rw [State.width, hg, width_geomWord w h hw]

theorem State.height_of_geom {s : State} {w h : Nat} (hg : s.geom = geomWord w h) (hh : h < 65536) :
    s.height = h := by
  rw [State.height, hg, height_geomWord w h hh]

theorem State.orient_of_cfg {s : State} {o : BitVec 2} {m : Byte} (hc : s.cfg = cfgWord o m) :
    s.orient = o := by
  rw [State.orient, hc, orient_cfgWord]

theorem State.model_of_cfg {s : State} {o : BitVec 2} {m : Byte} (hc : s.cfg = cfgWord o m) :
    s.model = m := by
  rw [State.model, hc, model_cfgWord]

theorem widthOperand_eq (v : Word) : widthOperand v = v.toNat % 65536 := by
  simp [widthOperand, BitVec.extractLsb'_toNat]

theorem heightOperand_eq (v : Word) : heightOperand v = v.toNat / 65536 := by
  simp only [heightOperand, BitVec.extractLsb'_toNat, Nat.shiftRight_eq_div_pow]
  have := v.isLt
  omega

/-- GEOM as a sum of its fields (R29). -/
theorem geomWord_eq (w h : Nat) (hw : w < 65536) :
    geomWord w h = BitVec.ofNat 32 (h * 65536 + w) := by
  apply BitVec.eq_of_toNat_eq
  simp only [geomWord, BitVec.toNat_setWidth, BitVec.toNat_append, BitVec.toNat_ofNat]
  rw [← Nat.shiftLeft_add_eq_or_of_lt (by omega)]
  simp only [Nat.shiftLeft_eq]
  omega

/-- CFG as a sum of its fields (R30). -/
theorem cfgWord_eq (o : BitVec 2) (m : Byte) :
    cfgWord o m = BitVec.ofNat 32 (m.toNat * 256 + o.toNat) := by
  have := o.isLt
  have := m.isLt
  apply BitVec.eq_of_toNat_eq
  simp only [cfgWord, BitVec.toNat_setWidth, BitVec.toNat_append, BitVec.toNat_ofNat]
  rw [← Nat.shiftLeft_add_eq_or_of_lt (by omega), ← Nat.shiftLeft_add_eq_or_of_lt (by omega),
    ← Nat.shiftLeft_add_eq_or_of_lt (by omega)]
  simp only [Nat.shiftLeft_eq]
  omega

/-- WINDOW as a sum of its bytes (R32). -/
theorem windowWord_eq (w : Window) :
    windowWord w = BitVec.ofNat 32 (w.colStart.toNat + 256 * w.colEnd.toNat +
      65536 * w.rowStart.toNat + 16777216 * w.rowEnd.toNat) := by
  obtain ⟨a, b, c, d⟩ := w
  have := a.isLt
  have := b.isLt
  have := c.isLt
  have := d.isLt
  apply BitVec.eq_of_toNat_eq
  simp only [windowWord, BitVec.toNat_setWidth, BitVec.toNat_append, BitVec.toNat_ofNat]
  rw [← Nat.shiftLeft_add_eq_or_of_lt (by omega), ← Nat.shiftLeft_add_eq_or_of_lt (by omega),
    ← Nat.shiftLeft_add_eq_or_of_lt (by omega)]
  simp only [Nat.shiftLeft_eq]
  omega

theorem bitMask_eq (k : Nat) (hk : k ≤ 7) : bitMask k = 1#8 <<< k := by
  interval_cases k <;> rfl

/-- BUFSIZE holds the buffer size: it fits (R31). -/
theorem bufsize_toNat {n : Nat} (h : n ≤ 65536) : (BitVec.ofNat 32 n).toNat = n := by
  simp; omega

/-! ### The tables -/

theorem flatMap_range_length {α : Type} (w h : Nat) (f : Nat → Nat → α) :
    ((List.range w).flatMap fun x => (List.range h).map fun y => f x y).length = w * h := by
  induction w with
  | zero => simp
  | succ w ih => rw [List.range_succ, List.flatMap_append, List.length_append, ih]; simp; ring

/-- Rows laid one after the other: entry `x*h + y` is the one built for `(x, y)`. -/
theorem flatMap_range_getElem? {α : Type} (w h : Nat) (f : Nat → Nat → α) {x y : Nat} (hx : x < w)
    (hy : y < h) :
    ((List.range w).flatMap fun x => (List.range h).map fun y => f x y)[x * h + y]? =
      some (f x y) := by
  induction w with
  | zero => omega
  | succ w ih =>
    rw [List.range_succ, List.flatMap_append]
    by_cases hxw : x < w
    · have hlt : x * h + y < w * h := by nlinarith
      rw [List.getElem?_append_left (by rw [flatMap_range_length]; exact hlt), ih hxw]
    · have hxe : x = w := by omega
      subst hxe
      rw [List.getElem?_append_right (by rw [flatMap_range_length]; omega), flatMap_range_length]
      simp [hy]

theorem buildTables_length (w h : Nat) (o : BitVec 2) :
    (buildTables w h o).offTab.length = w * h ∧ (buildTables w h o).maskTab.length = w * h := by
  simp only [buildTables, List.length_map, flatMap_range_length, and_self]

/-- What the table build puts at the index of an in-range pixel. -/
theorem tableEntry_buildTables {s : State} {w h : Nat} {o : BitVec 2}
    (ht : s.coordMap = some (buildTables w h o)) {x y : Nat} (hx : x < w) (hy : y < h) :
    s.tableEntry (x * h + y) =
      some (BitVec.ofNat 16 (mapPixel o w h x y).1, bitMask (mapPixel o w h x y).2) := by
  simp only [State.tableEntry, ht, buildTables, List.getElem?_map, flatMap_range_getElem? w h _ hx hy,
    Option.map_some]

/-! ### The range test and the index -/

theorem inRange_iff {w h : Nat} {x y : Int} :
    inRange w h x y = true ↔ 0 ≤ x ∧ x < w ∧ 0 ≤ y ∧ y < h := by
  simp [inRange]

/-- An in-range pixel's coordinates as naturals. -/
theorem inRange_toNat {w h : Nat} {x y : Int} (hr : inRange w h x y = true) :
    x.toNat < w ∧ y.toNat < h := by
  rw [inRange_iff] at hr
  omega

/-! ### Validation -/

/-- R111 in one line: no check fails exactly for a supported model and a geometry that passes. -/
theorem validate_eq_none_iff {p : Params} {w h : Nat} {o : BitVec 2} {m : Byte} :
    validate p w h o m = none ↔ m ∈ p.models ∧ GeometryOk w h o := by
  have ho : o = 0 ∨ o = 1 ∨ (o ≠ 0 ∧ o ≠ 1) := by
    by_cases h0 : o = 0
    · exact Or.inl h0
    · by_cases h1 : o = 1
      · exact Or.inr (Or.inl h1)
      · exact Or.inr (Or.inr ⟨h0, h1⟩)
  have h01 : (0 : BitVec 2) ≠ 1 := by decide
  have h10 : (1 : BitVec 2) ≠ 0 := by decide
  unfold validate GeometryOk bufferSize Config.minDim Config.maxDim Config.offsetBits
  by_cases hm : m ∈ p.models
  · rcases ho with rfl | rfl | ⟨h0, h1⟩
    · simp [hm]
      split_ifs <;> simp <;> omega
    · simp [hm]
      split_ifs <;> simp <;> omega
    · have h0' : ¬o = 0#2 := h0
      have h1' : ¬o = 1#2 := h1
      simp [hm, h0', h1']
  · simp [hm]

/-- A check that fails never names the empty cause. -/
theorem validate_ne_noCause {p : Params} {w h : Nat} {o : BitVec 2} {m : Byte} {c : Cause}
    (hv : validate p w h o m = some c) : c ≠ .noCause := by
  unfold validate at hv
  split_ifs at hv <;> simp at hv <;> subst hv <;> decide

/-- The OPEN parameters meet their constraints (R5, R166). -/
theorem Config.params_models_ne_nil : Config.params.models ≠ [] := by
  simp [Config.params, Params.constrained]

theorem firstModel_mem : Config.firstModel ∈ Config.params.models := by
  simp [Config.params, Params.constrained]

end Sys2Proof.Machine
end

