-- ==== Sys2Proof/Laws/Wire.lean ====
section
/-! SUPPORT. The wire's laws: what a reader of the trace sees of one transaction, of a delay and of the
reset pulse, and what each leaves on the lines. -/

namespace Sys2Proof.Machine

/-! ### Reading a trace -/

theorem Scan.run_append (sc : Scan) (es es' : List Event) :
    Scan.run sc (es ++ es') = (Scan.run sc es).bind fun sc' => Scan.run sc' es' := by
  simp [Scan.run, List.foldlM_append]

@[simp] theorem Scan.run_nil (sc : Scan) : Scan.run sc [] = some sc := rfl

theorem Scan.run_cons (sc : Scan) (e : Event) (es : List Event) :
    Scan.run sc (e :: es) = (sc.next e).bind fun sc' => Scan.run sc' es := by
  simp [Scan.run]

theorem traceOk_iff (es : List Event) :
    traceOk es = true ↔ ∃ d, Scan.run (.outside false) es = some (.outside d) := by
  unfold traceOk
  constructor
  · intro h
    split at h
    · rename_i sc hs
      cases sc with
      | outside d => exact ⟨d, hs⟩
      | inside sent dc => simp [Scan.isOutside] at h
    · exact absurd h (by decide)
  · rintro ⟨d, hd⟩
    simp [hd, Scan.isOutside]

/-- Events that a reader between transactions takes and ends between transactions. -/
def Whole (es : List Event) : Prop :=
  ∀ d, ∃ d', Scan.run (.outside d) es = some (.outside d')

theorem Whole.append {es es' : List Event} (h : Whole es) (h' : Whole es') : Whole (es ++ es') := by
  intro d
  obtain ⟨d₁, h₁⟩ := h d
  obtain ⟨d₂, h₂⟩ := h' d₁
  exact ⟨d₂, by rw [Scan.run_append, h₁]; exact h₂⟩

theorem Whole.nil : Whole [] := fun d => ⟨d, rfl⟩

theorem traceOk_append {es es' : List Event} (h : traceOk es = true) (h' : Whole es') :
    traceOk (es ++ es') = true := by
  rw [traceOk_iff] at *
  obtain ⟨d, hd⟩ := h
  obtain ⟨d', hd'⟩ := h' d
  exact ⟨d', by rw [Scan.run_append, hd]; exact hd'⟩

theorem scan_dataBytes (data : List Byte) :
    Scan.run (.inside true .data) (data.map .tx) = some (.inside true .data) := by
  induction data with
  | nil => rfl
  | cons b t ih => rw [List.map_cons, Scan.run_cons]; exact ih

theorem sendCommand_whole (cmd : Byte) (data : List Byte) : Whole (sendCommand cmd data) := by
  intro d
  refine ⟨false, ?_⟩
  unfold sendCommand
  rw [List.append_assoc, Scan.run_append]
  by_cases h : data = []
  · subst h; cases d <;> rfl
  · have hd : Scan.run (.outside d) [.dc .cmd, .csOn, .tx cmd] = some (.inside true .cmd) := by
      cases d <;> rfl
    rw [hd, if_neg h, List.cons_append]
    simp only [Option.bind_some]
    rw [Scan.run_cons]
    simp only [Scan.next, Option.bind_some]
    rw [Scan.run_append, scan_dataBytes]
    rfl

theorem delayEvent_whole (ms : Nat) : Whole (delayEvent ms) := by
  intro d
  unfold delayEvent
  split
  · rename_i h; exact ⟨d, by simp [Scan.run_cons, Scan.next, h]⟩
  · exact ⟨d, rfl⟩

theorem rst_whole (l : RstLevel) : Whole [.rst l] := fun d => ⟨d, rfl⟩

theorem resetPulse_whole (p : Params) : Whole (resetPulse p) := by
  unfold resetPulse
  split
  · exact (((((rst_whole _).append (delayEvent_whole _)).append (rst_whole _)).append
      (delayEvent_whole _)).append (rst_whole _)).append (delayEvent_whole _)
  · exact Whole.nil

theorem entryEvents_whole (e : BringUpEntry) : Whole (entryEvents e) :=
  (sendCommand_whole _ _).append (delayEvent_whole _)

theorem table_whole (t : List BringUpEntry) : Whole (t.flatMap entryEvents) := by
  induction t with
  | nil => exact Whole.nil
  | cons e t ih => rw [List.flatMap_cons]; exact (entryEvents_whole e).append ih

theorem bringUpEvents_whole (p : Params) (m : Byte) : Whole (bringUpEvents p m) :=
  (table_whole _).append (delayEvent_whole _)

theorem flushEvents_whole (p : Params) (w : Window) (buffer : List Byte) :
    Whole (flushEvents p w buffer) :=
  ((((sendCommand_whole _ _).append (sendCommand_whole _ _)).append (sendCommand_whole _ _)).append
    (sendCommand_whole _ _)).append (sendCommand_whole _ _)

/-! ### Lines -/

/-- The level of CS where a reader of the trace stands. -/
def Scan.cs : Scan → CsLevel
  | .outside _ => .deasserted
  | .inside _ _ => .asserted

/-- CS follows the reader of the trace, event by event. -/
theorem cs_after_next {sc sc' : Scan} {l : Lines} {e : Event} (h : sc.next e = some sc')
    (hl : l.cs = sc.cs) : (l.after e).cs = sc'.cs := by
  cases sc with
  | outside d =>
    cases e with
    | dc lv => cases lv <;> simp [Scan.next] at h <;> subst h <;> exact hl
    | csOn => cases d <;> simp [Scan.next] at h; subst h; rfl
    | tx b => simp [Scan.next] at h
    | csOff => simp [Scan.next] at h
    | rst lv => simp [Scan.next] at h; subst h; exact hl
    | delay ms => simp [Scan.next] at h; obtain ⟨-, rfl⟩ := h; exact hl
  | inside sent dc =>
    cases e with
    | dc lv => simp [Scan.next] at h; subst h; exact hl
    | csOn => simp [Scan.next] at h
    | tx b => cases sent <;> cases dc <;> simp [Scan.next] at h <;> subst h <;> exact hl
    | csOff => simp [Scan.next] at h; subst h; rfl
    | rst lv => simp [Scan.next] at h
    | delay ms => simp [Scan.next] at h

theorem cs_after_run {es : List Event} {sc sc' : Scan} {l : Lines}
    (h : Scan.run sc es = some sc') (hl : l.cs = sc.cs) :
    (es.foldl Lines.after l).cs = sc'.cs := by
  induction es generalizing sc l with
  | nil => simp at h; subst h; exact hl
  | cons e t ih =>
    rw [Scan.run_cons, Option.bind_eq_some_iff] at h
    obtain ⟨sc₁, h₁, h₂⟩ := h
    exact ih h₂ (cs_after_next h₁ hl)

theorem Whole.cs {es : List Event} (h : Whole es) {l : Lines} (hl : l.cs = .deasserted) :
    (es.foldl Lines.after l).cs = .deasserted := by
  obtain ⟨d, hd⟩ := h false
  exact cs_after_run hd hl

/-- The bytes of a transaction move no line. -/
theorem lines_dataBytes (data : List Byte) (l : Lines) :
    (data.map Event.tx).foldl Lines.after l = l := by
  induction data generalizing l with
  | nil => rfl
  | cons b t ih => exact ih l

/-- What one transaction leaves on the lines: CS deasserted, DC at the level of its last byte. -/
theorem lines_sendCommand (cmd : Byte) (data : List Byte) (l : Lines) :
    (sendCommand cmd data).foldl Lines.after l =
      ⟨.deasserted, some (if data = [] then .cmd else .data), l.rst⟩ := by
  unfold sendCommand
  by_cases h : data = []
  · simp [h, Lines.after]
  · simp [h, Lines.after, List.foldl_append, lines_dataBytes]

/-- A delay moves no line. -/
theorem lines_delayEvent (ms : Nat) (l : Lines) : (delayEvent ms).foldl Lines.after l = l := by
  unfold delayEvent
  split <;> rfl

/-! ### The reset line -/

/-- The event drives the reset line. -/
def Event.isRst : Event → Bool
  | .rst _ => true
  | _ => false

theorem rstFitted_iff (b : Bool) (es : List Event) :
    rstFitted b es = true ↔ (∀ l, .rst l ∉ es) ∨ b = true := by
  unfold rstFitted
  simp only [Bool.or_eq_true, List.all_eq_true]
  constructor
  · rintro (h | h)
    · exact Or.inl fun l hl => by simpa using h _ hl
    · exact Or.inr h
  · rintro (h | h)
    · refine Or.inl fun e he => ?_
      cases e with
      | rst l => exact absurd he (h l)
      | dc _ | csOn | tx _ | csOff | delay _ => rfl
    · exact Or.inr h

theorem rstFitted_append {b : Bool} {es es' : List Event} (h : rstFitted b es = true)
    (h' : rstFitted b es' = true) : rstFitted b (es ++ es') = true := by
  rw [rstFitted_iff] at *
  rcases h with h | h
  · rcases h' with h' | h'
    · left; intro l hl; rcases List.mem_append.1 hl with hl | hl
      · exact h l hl
      · exact h' l hl
    · exact Or.inr h'
  · exact Or.inr h

theorem rst_not_mem_sendCommand (cmd : Byte) (data : List Byte) (l : RstLevel) :
    Event.rst l ∉ sendCommand cmd data := by
  unfold sendCommand
  split <;> simp

theorem rst_not_mem_delayEvent (ms : Nat) (l : RstLevel) : Event.rst l ∉ delayEvent ms := by
  unfold delayEvent
  split <;> simp

theorem sendCommand_rstFitted (b : Bool) (cmd : Byte) (data : List Byte) :
    rstFitted b (sendCommand cmd data) = true :=
  (rstFitted_iff _ _).2 (Or.inl (rst_not_mem_sendCommand cmd data))

theorem delayEvent_rstFitted (b : Bool) (ms : Nat) : rstFitted b (delayEvent ms) = true :=
  (rstFitted_iff _ _).2 (Or.inl (rst_not_mem_delayEvent ms))

theorem resetPulse_rstFitted (p : Params) : rstFitted p.hasRst (resetPulse p) = true := by
  unfold resetPulse
  split
  · rename_i h; exact (rstFitted_iff _ _).2 (Or.inr h)
  · rfl

theorem bringUpEvents_rstFitted (b : Bool) (p : Params) (m : Byte) :
    rstFitted b (bringUpEvents p m) = true := by
  refine (rstFitted_iff _ _).2 (Or.inl fun l hl => ?_)
  simp only [bringUpEvents, List.mem_append, List.mem_flatMap, entryEvents] at hl
  rcases hl with ⟨e, -, h | h⟩ | h
  · exact rst_not_mem_sendCommand _ _ _ h
  · exact rst_not_mem_delayEvent _ _ h
  · exact rst_not_mem_delayEvent _ _ h

theorem flushEvents_rstFitted (b : Bool) (p : Params) (w : Window) (buffer : List Byte) :
    rstFitted b (flushEvents p w buffer) = true := by
  unfold flushEvents
  iterate 4
    refine rstFitted_append ?_ (sendCommand_rstFitted _ _ _)
  exact sendCommand_rstFitted _ _ _

end Sys2Proof.Machine
end

