-- ==== Sys2Proof/Laws/Ops.lean ====
section
/-! SUPPORT. One lemma for each shared operation and each meaning that says once everything it can do:
if it answers `next t`, then t is one of these states. -/

namespace Sys2Proof.Machine

variable {s t : State}

/-! ### The two checks every operation begins with -/

theorem guarded_of_ok {i : Instr} {body : Host.Outcome State Fault Refusal}
    (ha : acceptedIn i s.status.state = true) (hw : operandsWritten i s = true) :
    guarded i s body = body := by
  simp [guarded, ha, hw]

theorem guarded_refused {i : Instr} {body : Host.Outcome State Fault Refusal}
    (ha : acceptedIn i s.status.state = false) :
    guarded i s body = .next (refuseOp .wrongState s) := by
  simp [guarded, ha]

theorem guarded_unwritten {i : Instr} {body : Host.Outcome State Fault Refusal}
    (ha : acceptedIn i s.status.state = true) (hw : operandsWritten i s = false) :
    guarded i s body = .next (faultOp .unwrittenRegister s) := by
  simp [guarded, ha, hw]

/-- The three ways an operation can end in a next state. -/
theorem guarded_cases {i : Instr} {body : Host.Outcome State Fault Refusal}
    (h : guarded i s body = .next t) :
    (acceptedIn i s.status.state = false ∧ t = refuseOp .wrongState s) ∨
      (acceptedIn i s.status.state = true ∧ operandsWritten i s = false ∧
        t = faultOp .unwrittenRegister s) ∨
      (acceptedIn i s.status.state = true ∧ operandsWritten i s = true ∧ body = .next t) := by
  cases ha : acceptedIn i s.status.state
  · rw [guarded_refused ha] at h; exact Or.inl ⟨rfl, (Host.Outcome.next.inj h).symm⟩
  · cases hw : operandsWritten i s
    · rw [guarded_unwritten ha hw] at h
      exact Or.inr (Or.inl ⟨rfl, rfl, (Host.Outcome.next.inj h).symm⟩)
    · rw [guarded_of_ok ha hw] at h; exact Or.inr (Or.inr ⟨rfl, rfl, h⟩)

/-- The operation ended at one of the checks of `guarded`, with the mark and no other effect. -/
def StoppedEarly (i : Instr) (s t : State) : Prop :=
  (acceptedIn i s.status.state = false ∧ t = refuseOp .wrongState s) ∨
    (acceptedIn i s.status.state = true ∧ operandsWritten i s = false ∧
      t = faultOp .unwrittenRegister s)

/-- The operation passed both checks. -/
def Accepted (i : Instr) (s : State) : Prop :=
  acceptedIn i s.status.state = true ∧ operandsWritten i s = true

/-- Either a check ends the operation, or its own effect decides. -/
theorem guarded_inv {i : Instr} {body : Host.Outcome State Fault Refusal}
    (h : guarded i s body = .next t) : StoppedEarly i s t ∨ (Accepted i s ∧ body = .next t) := by
  rcases guarded_cases h with h | h | ⟨ha, hw, hb⟩
  · exact Or.inl (Or.inl h)
  · exact Or.inl (Or.inr h)
  · exact Or.inr ⟨⟨ha, hw⟩, hb⟩

theorem guarded_of_accepted {i : Instr} {body : Host.Outcome State Fault Refusal}
    (h : Accepted i s) : guarded i s body = body :=
  guarded_of_ok h.1 h.2

theorem StoppedEarly.not_accepted {i : Instr} (h : StoppedEarly i s t) : ¬Accepted i s := by
  rintro ⟨ha, hw⟩
  rcases h with ⟨h, -⟩ | ⟨-, h, -⟩
  · simp [ha] at h
  · simp [hw] at h

/-- What an operation that ends at a check leaves: everything but the marks, BUSY and the sequencer. -/
theorem StoppedEarly.frame {i : Instr} (h : StoppedEarly i s t) :
    SameArgs s t ∧ SameResults s t ∧ SameSetup s t ∧ t.fb = s.fb ∧ SameWire s t ∧
      SameStatus s t ∧ SamePanel s t ∧ SameWorld s t ∧ t.draws = s.draws ∧
      t.status.busy = false ∧ t.pending = none := by
  rcases h with ⟨-, rfl⟩ | ⟨-, -, rfl⟩ <;>
    simp [refuseOp, faultOp, SameArgs, SameResults, SameSetup, SameWire, SameStatus, SamePanel,
      SameWorld]

/-! ### Inversion of the meanings -/

/-- CONFIGURE: an error entry, an allocation failure, or the commit. -/
theorem execConfigure_cases {orient : BitVec 2} {model : Byte}
    (h : execConfigure orient model s = .next t) :
    StoppedEarly (.configure orient model) s t ∨
      (Accepted (.configure orient model) s ∧
        ((∃ c, validate Config.params (widthOperand s.arg0) (heightOperand s.arg0) orient model =
            some c ∧ t = raiseError (.configurationError c) s) ∨
          (validate Config.params (widthOperand s.arg0) (heightOperand s.arg0) orient model = none ∧
            ((Config.allocOk s.draws = false ∧ t = failAllocation s) ∨
              (Config.allocOk s.draws = true ∧
                t = commitConfigure Config.params (Config.fbInit s.draws) orient model s))))) := by
  rcases guarded_inv h with h | ⟨ha, hb⟩
  · exact Or.inl h
  · refine Or.inr ⟨ha, ?_⟩
    split at hb
    · rename_i c hc; exact Or.inl ⟨c, hc, (Host.Outcome.next.inj hb).symm⟩
    · rename_i hn
      refine Or.inr ⟨hn, ?_⟩
      split at hb
      · rename_i hok; exact Or.inr ⟨hok, (Host.Outcome.next.inj hb).symm⟩
      · rename_i hok; exact Or.inl ⟨by simpa using hok, (Host.Outcome.next.inj hb).symm⟩

/-- RESOLVE: the table entry's pair, or two zeros. -/
theorem execResolve_cases (h : execResolve s = .next t) :
    StoppedEarly .resolve s t ∨
      (Accepted .resolve s ∧
        ((inRange s.width s.height s.x s.y = true ∧
            ∃ off mask, s.tableEntry (linearIndex s.height s.x s.y) = some (off, mask) ∧
              t = (s.setResults (off.setWidth 32) (validMask mask)).endOp) ∨
          (inRange s.width s.height s.x s.y = false ∧ t = (s.setResults 0 0).endOp))) := by
  rcases guarded_inv h with h | ⟨ha, hb⟩
  · exact Or.inl h
  · refine Or.inr ⟨ha, ?_⟩
    split at hb
    · rename_i hr
      split at hb
      · rename_i off mask he
        exact Or.inl ⟨hr, off, mask, he, (Host.Outcome.next.inj hb).symm⟩
      · simp at hb
    · rename_i hr
      exact Or.inr ⟨by simpa using hr, (Host.Outcome.next.inj hb).symm⟩

/-- SET_PIXEL: one byte rewritten, or nothing. -/
theorem execSetPixel_cases {on : Bool} (h : execSetPixel on s = .next t) :
    StoppedEarly (.setPixel on) s t ∨
      (Accepted (.setPixel on) s ∧
        ((inRange s.width s.height s.x s.y = true ∧
            ∃ off mask b m, s.tableEntry (linearIndex s.height s.x s.y) = some (off, mask) ∧
              s.fb.read off.toNat = some b ∧
              s.fb.write off.toNat (pixelByte on b mask) = some m ∧ t = (s.setFb m).endOp) ∨
          (inRange s.width s.height s.x s.y = false ∧ t = s.endOp))) := by
  rcases guarded_inv h with h | ⟨ha, hb⟩
  · exact Or.inl h
  · refine Or.inr ⟨ha, ?_⟩
    split at hb
    · rename_i hr
      split at hb
      · simp at hb
      · rename_i off mask he
        split at hb
        · simp at hb
        · rename_i b hrd
          split at hb
          · simp at hb
          · rename_i m hwr
            exact Or.inl ⟨hr, off, mask, b, m, he, hrd, hwr, (Host.Outcome.next.inj hb).symm⟩
    · rename_i hr
      exact Or.inr ⟨by simpa using hr, (Host.Outcome.next.inj hb).symm⟩

/-- FILL: the filled memory. -/
theorem execFill_cases {on : Bool} (h : execFill on s = .next t) :
    StoppedEarly (.fill on) s t ∨
      (Accepted (.fill on) s ∧
        ∃ m, s.fb.fill s.bufsize.toNat (fillByte on) = some m ∧ t = (s.setFb m).endOp) := by
  rcases guarded_inv h with h | ⟨ha, hb⟩
  · exact Or.inl h
  · refine Or.inr ⟨ha, ?_⟩
    split at hb
    · simp at hb
    · rename_i m hm; exact ⟨m, hm, (Host.Outcome.next.inj hb).symm⟩

/-- FLUSH: the five transactions of the bytes that FB holds. -/
theorem execFlush_cases (h : execFlush s = .next t) :
    StoppedEarly .flush s t ∨
      (Accepted .flush s ∧
        ∃ buffer, s.fb.readAll s.bufsize.toNat = some buffer ∧
          t = (s.noteFlush.emit
            (flushEvents Config.params (windowOf s.window) buffer)).endOp) := by
  rcases guarded_inv h with h | ⟨ha, hb⟩
  · exact Or.inl h
  · refine Or.inr ⟨ha, ?_⟩
    split at hb
    · simp at hb
    · rename_i buffer hm; exact ⟨buffer, hm, (Host.Outcome.next.inj hb).symm⟩

/-- An operation that ends in one state `t'` past its checks. -/
theorem guarded_next_cases {i : Instr} {t' : State} (h : guarded i s (.next t') = .next t) :
    StoppedEarly i s t ∨ (Accepted i s ∧ t = t') := by
  rcases guarded_inv h with h | ⟨ha, hb⟩
  · exact Or.inl h
  · exact Or.inr ⟨ha, (Host.Outcome.next.inj hb).symm⟩

/-- INIT: the reset pulse and the bring-up. -/
theorem execInit_cases (h : execInit s = .next t) :
    StoppedEarly .init s t ∨
      (Accepted .init s ∧ t = ((s.emit (resetPulse Config.params ++
        bringUpEvents Config.params s.model)).setAsleep false).setReady.endOp) :=
  guarded_next_cases h

/-- SLEEP: its command. -/
theorem execSleep_cases (h : execSleep s = .next t) :
    StoppedEarly .sleep s t ∨
      (Accepted .sleep s ∧
        t = ((s.emit (sendCommand Config.params.opSlpin [])).setAsleep true).endOp) :=
  guarded_next_cases h

/-- WAKE: its command and its delay. -/
theorem execWake_cases (h : execWake s = .next t) :
    StoppedEarly .wake s t ∨
      (Accepted .wake s ∧ t = ((s.emit (sendCommand Config.params.opSlpout [] ++
        delayEvent Config.wakeMs)).setAsleep false).endOp) :=
  guarded_next_cases h

/-- LOW_POWER: its command. -/
theorem execLowPower_cases (h : execLowPower s = .next t) :
    StoppedEarly .lowPower s t ∨
      (Accepted .lowPower s ∧ t = (s.emit (sendCommand Config.params.opLpm [])).endOp) :=
  guarded_next_cases h

/-- HIGH_POWER: its command. -/
theorem execHighPower_cases (h : execHighPower s = .next t) :
    StoppedEarly .highPower s t ∨
      (Accepted .highPower s ∧ t = (s.emit (sendCommand Config.params.opHpm [])).endOp) :=
  guarded_next_cases h

/-! ### Parts of the invariant that follow the registers they speak of -/

theorem State.Setup.of_same (h : s.Setup) (h3 : SameSetup s t) (h4 : t.fb = s.fb)
    (he : t.status.err = s.status.err) (hc : t.status.cause = s.status.cause) : t.Setup := by
  obtain ⟨g1, g2, g3, -, g5⟩ := h3
  simp only [State.Setup, State.width, State.height, State.orient, State.model] at *
  rw [g1, g2, g3, g5, h4, he, hc]
  exact h

theorem wireInv_emit {p : Params} (h : s.WireInv p) {es : List Event} (hw : Whole es)
    (hr : rstFitted p.hasRst es = true) : (s.emit es).WireInv p := by
  obtain ⟨h1, h2, h3, h4⟩ := h
  refine ⟨traceOk_append h1 hw, ?_, hw.cs h3, rstFitted_append h4 hr⟩
  simp [State.emit, List.foldl_append, ← h2]

theorem marksInv_endOp (h : s.MarksInv) : s.endOp.MarksInv :=
  ⟨rfl, h.2.1, h.2.2.1, h.2.2.2.1, h.2.2.2.2⟩

/-! ### The step -/

theorem nextMove_of_runs {c : Word} (h : s.Runs c) : nextMove s = .run c := by
  obtain ⟨hp, h | ⟨a, rest, h⟩⟩ := h <;> simp [nextMove, h, hp]

theorem nextMove_of_serves {a : HostAccess} {rest : List HostInput} (h : s.Serves a rest) :
    nextMove s = .serve a rest := by
  obtain h | ⟨h, hp⟩ := h
  · simp [nextMove, h]
  · simp [nextMove, h, hp]

/-- Each move comes next only where its input or its command word stands. -/
theorem runs_of_nextMove {c : Word} (h : nextMove s = .run c) : s.Runs c := by
  unfold nextMove at h
  split at h <;> simp at h
  · subst h; rename_i hi hp; exact ⟨hp, Or.inr ⟨_, _, hi⟩⟩
  · subst h; rename_i hi hp; exact ⟨hp, Or.inl hi⟩

theorem serves_of_nextMove {a : HostAccess} {rest : List HostInput}
    (h : nextMove s = .serve a rest) : s.Serves a rest := by
  unfold nextMove at h
  split at h <;> simp at h
  · obtain ⟨rfl, rfl⟩ := h; rename_i hi; exact Or.inl hi
  · obtain ⟨rfl, rfl⟩ := h; rename_i hi hp; exact Or.inr ⟨hi, hp⟩

theorem hostIn_of_nextMove_reset {rest : List HostInput} (h : nextMove s = .reset rest) :
    s.hostIn = .blockReset :: rest := by
  unfold nextMove at h
  split at h <;> simp at h
  subst h; assumption

/-- The step of a running operation. -/
theorem step_of_runs {c : Word} (h : s.Runs c) : step s = runCommand c s := by
  simp [step, nextMove_of_runs h]

/-- The step of a served access. -/
theorem step_of_serves {a : HostAccess} {rest : List HostInput} (h : s.Serves a rest) :
    step s = .next (hostAccess a (s.setInputs rest)) := by
  simp [step, nextMove_of_serves h]

/-- Everything a step can do. -/
theorem step_cases (h : step s = .next t) :
    (∃ rest, nextMove s = .reset rest ∧ t = blockReset (s.setInputs rest)) ∨
      (∃ a rest, nextMove s = .serve a rest ∧ t = hostAccess a (s.setInputs rest)) ∨
      (∃ c, nextMove s = .run c ∧ s.pending = some c ∧ runCommand c s = .next t) ∨
      (nextMove s = .idle ∧ t = s) := by
  unfold step at h
  split at h
  · rename_i rest hm; exact Or.inl ⟨rest, hm, (Host.Outcome.next.inj h).symm⟩
  · rename_i a rest hm; exact Or.inr (Or.inl ⟨a, rest, hm, (Host.Outcome.next.inj h).symm⟩)
  · rename_i c hm
    refine Or.inr (Or.inr (Or.inl ⟨c, hm, ?_, h⟩))
    unfold nextMove at hm
    split at hm <;> first | (simp at hm; done) | (simp at hm; subst hm; assumption)
  · rename_i hm; exact Or.inr (Or.inr (Or.inr ⟨hm, (Host.Outcome.next.inj h).symm⟩))

/-- A command either is refused at decode or runs. -/
theorem runCommand_cases {c : Word} (h : runCommand c s = .next t) :
    (∃ r, decode c = .error r ∧ t = refuseOp r s) ∨ (∃ i, decode c = .ok i ∧ exec i s = .next t) := by
  unfold runCommand at h
  split at h
  · rename_i i hi; exact Or.inr ⟨i, hi, h⟩
  · rename_i r hr; exact Or.inl ⟨r, hr, (Host.Outcome.next.inj h).symm⟩

/-! ### The host port -/

theorem hostAccess_read {offset : BitVec 6} {bits : Nat} (hb : s.status.busy = false) :
    hostAccess (.read offset bits) s = hostRead offset bits s := by
  simp [hostAccess, hb]

theorem hostAccess_write {offset : BitVec 6} {bits : Nat} {v : Word} (hb : s.status.busy = false) :
    hostAccess (.write offset bits v) s = hostWrite offset bits v s := by
  simp [hostAccess, hb]

/-- The step of a read served with BUSY = 0. -/
theorem step_of_read {offset : BitVec 6} {bits : Nat} {rest : List HostInput}
    (hb : s.status.busy = false) (h : s.Serves (.read offset bits) rest) :
    step s = .next (hostRead offset bits (s.setInputs rest)) := by
  rw [step_of_serves h, hostAccess_read (s := s.setInputs rest) hb]

/-- The step of a write served with BUSY = 0. -/
theorem step_of_write {offset : BitVec 6} {bits : Nat} {v : Word} {rest : List HostInput}
    (hb : s.status.busy = false) (h : s.Serves (.write offset bits v) rest) :
    step s = .next (hostWrite offset bits v (s.setInputs rest)) := by
  rw [step_of_serves h, hostAccess_write (s := s.setInputs rest) hb]

/-- What the register at an offset reads as. -/
theorem hostRead_of_value {offset : BitVec 6} {r : HostReg} {v : Word}
    (hr : regAt offset 32 = some r) (hv : readReg s r = .value v) :
    hostRead offset 32 s = s.reply offset v := by
  simp [hostRead, hr, hv]

theorem regAt_isSome_iff (offset : BitVec 6) :
    (regAt offset 32).isSome = true ↔ offset.toNat % 4 = 0 ∧ offset.toNat < 0x28 := by
  revert offset; decide

theorem regAt_bits {offset : BitVec 6} {bits : Nat} (h : bits ≠ 32) : regAt offset bits = none := by
  simp [regAt, h]

/-- What a host read of an operand register returns depends on the register and the count of resets. -/
theorem readReg_arg0_congr (hr : t.resets = s.resets) (ha : t.arg0 = s.arg0)
    (hw : t.arg0Written = s.arg0Written) : readReg t .arg0 = readReg s .arg0 := by
  unfold readReg; rw [hr, ha, hw]

theorem readReg_arg1_congr (hr : t.resets = s.resets) (ha : t.arg1 = s.arg1)
    (hw : t.arg1Written = s.arg1Written) : readReg t .arg1 = readReg s .arg1 := by
  unfold readReg; rw [hr, ha, hw]

/-- STATUS as a sum of its fields (R24). -/
theorem statusWord_eq (x : Status) :
    statusWord x = BitVec.ofNat 32 ((stateCode x.state).toNat + (if x.busy then 4 else 0) +
      8 * (errCode x.err).toNat + 32 * (causeCode x.cause).toNat) := by
  obtain ⟨a, b, c, d⟩ := x
  cases a <;> cases b <;> cases c <;> cases d <;> rfl

/-- Everything a host access can do: one of the marks, a reply, an operand, or the start of an
operation. -/
theorem hostAccess_cases (a : HostAccess) (s : State) :
    (∃ r, hostAccess a s = s.markRefused r) ∨
      hostAccess a s = s.addFault .unwrittenRegister ∨
      (∃ o v, hostAccess a s = s.reply o v) ∨
      (s.status.busy = false ∧ ((∃ v, hostAccess a s = s.writeArg0 v) ∨
        (∃ v, hostAccess a s = s.writeArg1 v) ∨ (∃ c, hostAccess a s = s.startOp c))) := by
  unfold hostAccess
  split
  · exact Or.inl ⟨_, rfl⟩
  · rename_i hb
    cases a with
    | read o bits =>
      simp only [hostRead]
      split
      · exact Or.inl ⟨_, rfl⟩
      · split
        · exact Or.inr (Or.inr (Or.inl ⟨_, _, rfl⟩))
        · exact Or.inr (Or.inl rfl)
        · exact Or.inl ⟨_, rfl⟩
    | write o bits v =>
      have hbusy : s.status.busy = false := by simpa [isStatusRead] using hb
      simp only [hostWrite]
      split
      · exact Or.inr (Or.inr (Or.inr ⟨hbusy, Or.inr (Or.inr ⟨_, rfl⟩)⟩))
      · exact Or.inr (Or.inr (Or.inr ⟨hbusy, Or.inl ⟨_, rfl⟩⟩))
      · exact Or.inr (Or.inr (Or.inr ⟨hbusy, Or.inr (Or.inl ⟨_, rfl⟩)⟩))
      · exact Or.inl ⟨_, rfl⟩

end Sys2Proof.Machine
end

