-- ==== Sys2Proof/Laws/PerInstr.lean ====
section
/-! SUPPORT. The family of laws about each operation as syntax: its fields stand in its command word as
R81 lays them out, none of them dropped, and every field it does not use is 0 (R82). -/

namespace Sys2Proof.Laws.FieldsOfWord

/-- The operation is well formed, and the fields read back from its command word are its own. -/
def Statement (i : Instr) : Prop :=
  i.wellFormed = true ∧ fieldsOf (encode i) = i.fields

theorem configure (orient : BitVec 2) (model : Byte) : Statement (.configure orient model) := by
  refine ⟨by simp [Instr.wellFormed, Fields.wellFormed, Instr.fields, Fields.opAssigned,
    Fields.fieldUseOk, Fields.usesPanel], ?_⟩
  simp only [fieldsOf, encode, Instr.fields, Fields.word, Fields.mk.injEq]
  refine ⟨?_, ?_, ?_, ?_, ?_, ?_⟩ <;> ext i hi <;>
    simp only [BitVec.getElem_extractLsb', BitVec.getLsbD_setWidth, BitVec.getLsbD_append] <;>
    interval_cases i <;> simp [BitVec.getLsbD_eq_getElem]

theorem resolve : Statement .resolve := ⟨by decide, by decide⟩

theorem setPixel (on : Bool) : Statement (.setPixel on) := by
  cases on <;> exact ⟨by decide, by decide⟩

theorem fill (on : Bool) : Statement (.fill on) := by
  cases on <;> exact ⟨by decide, by decide⟩

theorem init : Statement .init := ⟨by decide, by decide⟩

theorem flush : Statement .flush := ⟨by decide, by decide⟩

theorem sleep : Statement .sleep := ⟨by decide, by decide⟩

theorem wake : Statement .wake := ⟨by decide, by decide⟩

theorem lowPower : Statement .lowPower := ⟨by decide, by decide⟩

theorem highPower : Statement .highPower := ⟨by decide, by decide⟩

end Sys2Proof.Laws.FieldsOfWord
end

