-- ==== Sys2Proof/Tests/Slice0.lean ====
section
/-! SUPPORT. Tests against the vectors of 95_test_vectors.md and the spec's worked examples, with the
expected values written from the spec, and a witness for each obligation that has hypotheses. -/

namespace Sys2Proof.Machine.Tests

/-! ### The test instance TI (95_test_vectors.md section 2) and small states -/

/-- The parameters of TI. -/
def ti : Params :=
  { models := [0]
    window := fun _ => ⟨0x01, 0x02, 0x03, 0x04⟩
    bringUp := fun _ => [⟨0x11, [], 200⟩, ⟨0x2A, [0x01, 0x02], 0⟩, ⟨0x2B, [0x03, 0x04], 0⟩]
    hasRst := true
    postBringUpMs := 0
    opSlpin := 0x10
    opSlpout := 0x11
    opDispon := 0x29
    opCaset := 0x2A
    opRaset := 0x2B
    opRamwr := 0x2C
    opHpm := 0x38
    opLpm := 0x39 }

/-- `fb_init` of TI. -/
def tiInit : Nat → Byte := fun _ => 0xAA

/-- The next state of an outcome. -/
def after (o : Host.Outcome State Fault Refusal) : Option State :=
  match o with
  | .next s => some s
  | .fault _ => none
  | .refused _ => none

/-- STATUS as the host reads it, after an outcome. -/
def statusAfter (o : Host.Outcome State Fault Refusal) : Option Word :=
  (after o).map fun s => statusWord s.status

/-- The bytes of FB after an outcome. -/
def fbAfter (o : Host.Outcome State Fault Refusal) : Option (List Byte) :=
  (after o).map fun s => s.fb.cells.map Prod.snd

/-- Reset, with ARG0 = `{h, w}` written and the operation started. -/
def asked (w h : Nat) : State :=
  (State.reset.writeArg0 (BitVec.ofNat 32 (h * 65536 + w))).startOp 0x1

/-- An 8 × 8 block in a state after CONFIGURE under TI, with these bytes in FB. -/
def block (b : BlockState) (orient : BitVec 2) (bytes : List Byte) : State :=
  { State.reset with
    status := ⟨b, false, .noError, .noCause⟩
    geom := 0x00080008
    cfg := cfgWord orient 0
    bufsize := 8
    window := 0x04030201
    coordMap := some (buildTables 8 8 orient)
    fb := Memory.create 8 fun i => bytes.getD i 0xFF }

/-- The same block with ARG0 and ARG1 written. -/
def blockAt (b : BlockState) (orient : BitVec 2) (bytes : List Byte) (x y : Int) : State :=
  (block b orient bytes).withArgs x y

/-- The FB of PROG-2 and V-TW-04. -/
def prog2 : List Byte := [0x7F, 0xFF, 0xFF, 0xFF, 0xFD, 0xFF, 0xFF, 0xFE]

/-! ### Encoding: words written out from R81, and V-EN-01 to V-EN-15 -/

/-- The word of every constructor, from the opcode map R83 and the bit string of R81. -/
theorem test_decode_words :
    decode 0x00005A21 = .ok (.configure 1 0x5A) ∧ decode 0x00000002 = .ok .resolve ∧
      decode 0x00000013 = .ok (.setPixel true) ∧ decode 0x00000003 = .ok (.setPixel false) ∧
      decode 0x00000014 = .ok (.fill true) ∧ decode 0x00000004 = .ok (.fill false) ∧
      decode 0x00000005 = .ok .init ∧ decode 0x00000006 = .ok .flush ∧
      decode 0x00000007 = .ok .sleep ∧ decode 0x00000008 = .ok .wake ∧
      decode 0x00000009 = .ok .lowPower ∧ decode 0x0000000A = .ok .highPower := by
  refine ⟨rfl, rfl, rfl, rfl, rfl, rfl, rfl, rfl, rfl, rfl, rfl, rfl⟩

/-- V-EN-01 to V-EN-03. -/
theorem test_reserved_opcodes :
    decode 0x00000000 = .error .reservedOpcode ∧ decode 0x0000000B = .error .reservedOpcode ∧
      decode 0x0000000F = .error .reservedOpcode := ⟨rfl, rfl, rfl⟩

/-- V-EN-04 to V-EN-13. -/
theorem test_reserved_fields :
    decode 0x00000081 = .error .reservedField ∧ decode 0x00010001 = .error .reservedField ∧
      decode 0x80000006 = .error .reservedField ∧ decode 0x00000012 = .error .reservedField ∧
      decode 0x00000015 = .error .reservedField ∧ decode 0x00000017 = .error .reservedField ∧
      decode 0x00000026 = .error .reservedField ∧ decode 0x00000024 = .error .reservedField ∧
      decode 0x00000103 = .error .reservedField ∧ decode 0x00000104 = .error .reservedField := by
  refine ⟨rfl, rfl, rfl, rfl, rfl, rfl, rfl, rfl, rfl, rfl⟩

/-- V-EN-14 and V-EN-15: these decode. -/
theorem test_unsupported_decodes :
    decode 0x00000101 = .ok (.configure 0 1) ∧ decode 0x00000061 = .ok (.configure 3 0) :=
  ⟨rfl, rfl⟩

theorem test_encode_configure : encode (.configure 1 0x5A) = 0x00005A21 := by decide

/-- The table's numbering of bits: one word, the bits above `nbits` zero. -/
theorem test_decodeTableWord :
    decodeTableWord 32 0x13 = some (.setPixel true) ∧ decodeTableWord 32 0x0B = none := ⟨rfl, rfl⟩

/-! ### WellFormed: one ill-formed term for each check (R82, R89, R91) -/

theorem test_wf_fields : (Fields.mk 0 0x5A 0 1 0 0x1).wellFormed = true := by decide
theorem test_wf_op_zero : (Fields.mk 0 0 0 0 0 0x0).wellFormed = false := by decide
theorem test_wf_op_high : (Fields.mk 0 0 0 0 0 0xB).wellFormed = false := by decide
theorem test_wf_high : (Fields.mk 1 0 0 0 0 0x2).wellFormed = false := by decide
theorem test_wf_bit7 : (Fields.mk 0 0 1 0 0 0x1).wellFormed = false := by decide
theorem test_wf_f : (Fields.mk 0 0 0 0 1 0x5).wellFormed = false := by decide
theorem test_wf_orient : (Fields.mk 0 0 0 1 0 0x6).wellFormed = false := by decide
theorem test_wf_model : (Fields.mk 0 1 0 0 0 0x3).wellFormed = false := by decide

theorem test_asm_width : (AsmLine.configure 65536 8 0 0).wellFormed = false := by decide
theorem test_asm_height : (AsmLine.configure 8 (-1) 0 0).wellFormed = false := by decide
theorem test_asm_orient : (AsmLine.setup 8 8 4 0).wellFormed = false := by decide
theorem test_asm_model : (AsmLine.configure 8 8 0 256).wellFormed = false := by decide
theorem test_asm_x : (AsmLine.resolve 2147483648 0).wellFormed = false := by decide
theorem test_asm_y : (AsmLine.plot 0 (-2147483649)).wellFormed = false := by decide
theorem test_asm_on : (AsmLine.fill 2).wellFormed = false := by decide
theorem test_asm_value : (AsmLine.wr .arg0 4294967296).wellFormed = false := by decide

/-! ### The assembler (the examples of 95_test_vectors.md section 3.1) -/

theorem test_asm_configure :
    assemble (.configure 400 300 0 0) = some
      [.access (.write 0x04 32 0x012C0190), .access (.write 0x00 32 0x00000001),
        .access (.read 0x14 32)] := by decide

theorem test_asm_setpx :
    assemble (.setpx (-1) 0 1) = some
      [.access (.write 0x04 32 0xFFFFFFFF), .access (.write 0x08 32 0),
        .access (.write 0x00 32 0x00000013), .access (.read 0x14 32)] := by decide

/-- R92: SETUP is CONFIGURE then INIT (PROG-2). -/
theorem test_asm_setup :
    assemble (.setup 8 8 1 0) = some
      [.access (.write 0x04 32 0x00080008), .access (.write 0x00 32 0x00000021),
        .access (.read 0x14 32), .access (.write 0x00 32 0x00000005), .access (.read 0x14 32)] := by
  decide

/-- R90: a line of text with a hexadecimal number, an orientation letter and a comment. -/
theorem test_parse_configure :
    parseLine ("CONFIGURE 8, 8, B, 0x5A ; note".toList) = some [.configure 8 8 1 0x5A] := by decide

theorem test_parse_negative :
    parseLine ("SETPX -1, 0, 1".toList) = some [.setpx (-1) 0 1] ∧
      parseLine ("  ; only a comment".toList) = some [] ∧ parseLine ("JUMP 3".toList) = none := by
  decide

/-- WR as R91 writes it and as PROG-6 writes it; a register without a value is no line. -/
theorem test_parse_wr :
    parseLine ("WR CMD, 0x0000000C".toList) = some [.wr .cmd 0xC] ∧
      parseLine ("WR CMD 0x0000000C       ; WAIT".toList) = some [.wr .cmd 0xC] ∧
      parseLine ("WR CMD".toList) = none := by decide

/-! ### CONFIGURE (V-CF) -/

/-- V-CF-04 and V-CF-12: STATUS, GEOM, CFG, BUFSIZE and WINDOW after the smallest geometry, and the
15 bytes of fb_init of 12 × 10. -/
theorem test_configure_commits :
    (after (configureWith ti true tiInit 1 0 (asked 8 8))).map
        (fun s => (statusWord s.status, s.geom, s.cfg, s.bufsize, s.window)) =
      some (0x01, 0x00080008, 0x00000001, 8, 0x04030201) ∧
    fbAfter (configureWith ti true tiInit 1 0 (asked 12 10)) = some (List.replicate 15 0xAA) := by
  decide

/-- V-CF-05 to V-CF-11, V-CF-13 to V-CF-17, V-CF-20 and V-CF-22: the first failed check; V-CF-24 and
V-CF-25: allocation fails after validation only; V-CF-26: ARG0 never written. -/
theorem test_configure_errors :
    statusAfter (configureWith ti true tiInit 0 0 (asked 7 8)) = some 0x6B ∧
      statusAfter (configureWith ti true tiInit 1 0 (asked 8 7)) = some 0x6B ∧
      statusAfter (configureWith ti true tiInit 0 0 (asked 0 0)) = some 0x6B ∧
      statusAfter (configureWith ti true tiInit 0 0 (asked 9 8)) = some 0x8B ∧
      statusAfter (configureWith ti true tiInit 0 0 (asked 8 10)) = some 0x8B ∧
      statusAfter (configureWith ti true tiInit 1 0 (asked 10 10)) = some 0x8B ∧
      statusAfter (configureWith ti true tiInit 0 0 (asked 65535 8)) = some 0x8B ∧
      statusAfter (configureWith ti true tiInit 2 0 (asked 8 8)) = some 0x4B ∧
      statusAfter (configureWith ti true tiInit 3 0 (asked 9 8)) = some 0x4B ∧
      statusAfter (configureWith ti true tiInit 0 5 (asked 8 8)) = some 0x2B ∧
      statusAfter (configureWith ti true tiInit 2 5 (asked 9 9)) = some 0x2B ∧
      statusAfter (configureWith ti true tiInit 0 0 (asked 1024 516)) = some 0xAB ∧
      statusAfter (configureWith ti true tiInit 1 0 (asked 65532 16)) = some 0xAB ∧
      statusAfter (configureWith ti false tiInit 0 0 (asked 8 8)) = some 0x13 ∧
      statusAfter (configureWith ti false tiInit 0 0 (asked 7 8)) = some 0x6B ∧
      (after (configureWith ti true tiInit 0 0 State.reset)).map
        (fun s => (s.faults, s.refused, s.status.state)) =
        some ([.unwrittenRegister], false, .unconfigured) := by decide

/-- V-CF-18, V-CF-19 and V-CF-23: bufferSize up to exactly 2^16 passes. -/
theorem test_configure_limits :
    validate ti 512 1024 0 0 = none ∧ validate ti 1024 512 1 0 = none ∧
      validate ti 8 65528 0 0 = none := by decide

/-! ### The mapping and RESOLVE (V-SRC, V-GR) -/

/-- V-GR-01 to V-GR-11: 400 × 300, A. -/
theorem test_mapA :
    mapA 400 300 0 299 = (0, 7) ∧ mapA 400 300 1 299 = (0, 6) ∧ mapA 400 300 0 298 = (0, 5) ∧
      mapA 400 300 1 296 = (0, 0) ∧ mapA 400 300 0 295 = (1, 7) ∧ mapA 400 300 0 0 = (74, 1) ∧
      mapA 400 300 2 299 = (75, 7) ∧ mapA 400 300 199 150 = (7462, 4) ∧
      mapA 400 300 398 0 = (14999, 1) ∧ mapA 400 300 399 299 = (14925, 6) := by decide

/-- V-GR-20 to V-GR-28: 200 × 200, B. -/
theorem test_mapB :
    mapB 200 200 3 1 = (0, 0) ∧ mapB 200 200 0 0 = (0, 7) ∧ mapB 200 200 4 0 = (1, 7) ∧
      mapB 200 200 0 1 = (0, 3) ∧ mapB 200 200 100 100 = (2525, 7) ∧
      mapB 200 200 196 198 = (4999, 7) ∧ mapB 200 200 199 199 = (4999, 0) := by decide

/-- PROG-1: RESOLVE 5, 3 on 8 × 8 A. -/
theorem test_resolve :
    (after (execResolve (blockAt .configured 0 [] 5 3))).map
        (fun s => (s.res0, s.res1, s.res0Written, s.res1Written)) =
      some (0x00000005, 0x00000140, true, true) := by decide

/-- V-GR-12 to V-GR-16 on 8 × 8: out of range is no error. -/
theorem test_resolve_out_of_range :
    (after (execResolve (blockAt .ready 1 [] (-2147483648) 0))).map
        (fun s => (s.res0, s.res1, s.res1Written, s.refused, s.faults)) =
      some (0, 0, true, false, []) := by decide

/-! ### SET_PIXEL and FILL (V-FB) -/

/-- V-FB-05: setting a white bit, clearing a bit, and clearing a bit that is 0 already. -/
theorem test_setPixel :
    fbAfter (execSetPixel false (blockAt .configured 1 [0xAA] 1 0)) =
        some (0xEA :: List.replicate 7 0xFF) ∧
      fbAfter (execSetPixel true (blockAt .configured 1 [0xEA] 0 0)) =
        some (0x6A :: List.replicate 7 0xFF) ∧
      fbAfter (execSetPixel true (blockAt .configured 1 [0x6A] 3 1)) =
        some (0x6A :: List.replicate 7 0xFF) := by decide

/-- V-FB-03: out of range leaves FB byte for byte and sets no mark. -/
theorem test_setPixel_out_of_range :
    (after (execSetPixel true (blockAt .configured 0 prog2 8 0))).map
        (fun s => (s.fb.cells.map Prod.snd, s.refused, s.faults)) = some (prog2, false, []) := by
  decide

/-- V-FB-08 and V-FB-11: every byte 0x00, with no ARG register written. -/
theorem test_fill_on :
    fbAfter (execFill true (block .configured 0 prog2)) = some (List.replicate 8 0x00) := by decide

theorem test_fill_off :
    fbAfter (execFill false (block .ready 0 prog2)) = some (List.replicate 8 0xFF) := by decide

/-! ### The Transport Writer (V-TW) -/

/-- V-TW-01: the trace of INIT under TI, and its end state. -/
theorem test_init :
    (after (initWith ti (block .configured 0 []))).map
        (fun s => (s.trace, statusWord s.status, s.panelAsleep)) =
      some (
        [.rst .asserted, .delay 50, .rst .deasserted, .delay 20, .rst .asserted, .delay 50,
          .dc .cmd, .csOn, .tx 0x11, .csOff, .delay 200,
          .dc .cmd, .csOn, .tx 0x2A, .dc .data, .tx 0x01, .tx 0x02, .csOff,
          .dc .cmd, .csOn, .tx 0x2B, .dc .data, .tx 0x03, .tx 0x04, .csOff], 0x02, false) := by
  decide

/-- V-TW-02: without the reset line the first six events are missing. -/
theorem test_init_without_rst :
    (after (initWith { ti with hasRst := false } (block .configured 0 []))).map
        (fun s => s.trace.take 5) =
      some [.dc .cmd, .csOn, .tx 0x11, .csOff, .delay 200] := by decide

/-- V-TW-04 and PROG-2: the 35 events of FLUSH. -/
theorem test_flush :
    (after (flushWith ti (block .ready 1 prog2))).map (fun s => s.trace) =
      some (
        [.dc .cmd, .csOn, .tx 0x38, .csOff, .dc .cmd, .csOn, .tx 0x29, .csOff,
          .dc .cmd, .csOn, .tx 0x2A, .dc .data, .tx 0x01, .tx 0x02, .csOff,
          .dc .cmd, .csOn, .tx 0x2B, .dc .data, .tx 0x03, .tx 0x04, .csOff,
          .dc .cmd, .csOn, .tx 0x2C, .dc .data, .tx 0x7F, .tx 0xFF, .tx 0xFF, .tx 0xFF, .tx 0xFD,
          .tx 0xFF, .tx 0xFF, .tx 0xFE, .csOff]) := by decide

/-- V-TW-09: the hazard mark, and only while the panel sleeps. -/
theorem test_flush_hazard :
    (after (flushWith ti (block .ready 1 prog2))).map (fun s => s.hazards) =
        some [.flushWhileAsleep] ∧
      (after (flushWith ti ((block .ready 1 prog2).setAsleep false))).map (fun s => s.hazards) =
        some [] := by decide

/-- V-TW-06. -/
theorem test_sleep :
    (after (sleepWith ti ((block .ready 0 []).setAsleep false))).map
        (fun s => (s.trace, s.panelAsleep)) =
      some ([.dc .cmd, .csOn, .tx 0x10, .csOff], true) := by decide

/-- V-TW-07. -/
theorem test_wake :
    (after (wakeWith ti (block .ready 0 []))).map (fun s => (s.trace, s.panelAsleep)) =
      some ([.dc .cmd, .csOn, .tx 0x11, .csOff, .delay 120], false) := by decide

/-- V-TW-08. -/
theorem test_lowPower :
    (after (lowPowerWith ti (block .ready 0 []))).map (fun s => s.trace) =
      some [.dc .cmd, .csOn, .tx 0x39, .csOff] := by decide

theorem test_highPower :
    (after (highPowerWith ti (block .ready 0 []))).map (fun s => s.trace) =
      some [.dc .cmd, .csOn, .tx 0x38, .csOff] := by decide

/-- V-TW-10: in CONFIGURED these are refused, with no event. -/
theorem test_wire_refused :
    (after (flushWith ti (block .configured 0 []))).map (fun s => (s.refused, s.trace)) =
      some (true, []) := by decide

/-- The bring-up table of TI meets R166. -/
theorem test_ti_valid : ti.models ≠ [] ∧ ti.tableOk (ti.window 0) (ti.bringUp 0) = true := by decide

/-- R161: a byte outside a transaction, a missing DC, and a delay inside one are not well formed. -/
theorem test_traceOk :
    traceOk [.dc .cmd, .csOn, .tx 0x10, .csOff] = true ∧ traceOk [.tx 0x10] = false ∧
      traceOk [.csOn, .csOff] = false ∧ traceOk [.dc .cmd, .csOn, .delay 1, .csOff] = false ∧
      traceOk [.dc .cmd, .csOn, .tx 1, .tx 2, .csOff] = false ∧ traceOk [.dc .cmd, .csOn] = false := by
  decide

/-! ### The host port (V-HA) and the step -/

/-- A block with one input to serve. -/
def asks (s : State) (a : HostAccess) : State := s.setInputs [.access a]

/-- V-HA-01, V-HA-04: reads that return a value. -/
theorem test_host_reads :
    (after (step (asks State.reset (.read 0x14 32)))).map (fun s => s.hostOut) =
        some [⟨0x14, 0⟩] ∧
      (after (step (asks (State.reset.writeArg0 0x12345678) (.read 0x04 32)))).map
        (fun s => s.hostOut) = some [⟨0x04, 0x12345678⟩] := by decide

/-- V-HA-03 and V-HA-05 to V-HA-08: the marks. -/
theorem test_host_marks :
    (after (step (asks State.reset (.read 0x0C 32)))).map (fun s => (s.faults, s.hostOut)) =
        some ([.unwrittenRegister], []) ∧
      (after (step (asks State.reset (.read 0x00 32)))).map (fun s => s.refusalLog) =
        some [.badHostAccess] ∧
      (after (step (asks State.reset (.write 0x14 32 1)))).map (fun s => s.refusalLog) =
        some [.badHostAccess] ∧
      (after (step (asks State.reset (.read 0x3C 32)))).map (fun s => s.refusalLog) =
        some [.badHostAccess] ∧
      (after (step (asks State.reset (.read 0x06 32)))).map (fun s => s.refusalLog) =
        some [.badHostAccess] ∧
      (after (step (asks State.reset (.read 0x14 8)))).map (fun s => s.refusalLog) =
        some [.badHostAccess] := by decide

/-- V-HA-09: a write while BUSY = 1; STATUS can be read then. -/
theorem test_host_busy :
    (after (step ((asked 8 8).setInputs [.during (.write 0x04 32 1)]))).map
        (fun s => (s.refusalLog, s.arg0)) = some ([.busyAccess], 0x00080008) ∧
      (after (step ((asked 8 8).setInputs [.during (.read 0x14 32)]))).map (fun s => s.hostOut) =
        some [⟨0x14, 4⟩] := by decide

/-- R21: an ARG1 that nothing has written reads the same after a CONFIGURE that takes a draw. -/
theorem test_unwritten_arg1_kept :
    (after (configureWith ti false tiInit 0 0 (asked 8 8))).map (fun s => readReg s .arg1) =
      some (readReg (asked 8 8) .arg1) := rfl

/-- A CMD write raises BUSY, and the next step runs the operation (V-EN-16). -/
theorem test_step_cmd :
    (after (step (asks State.reset (.write 0x00 32 0x6)))).map
        (fun s => (s.pending, s.status.busy)) = some (some 0x6, true) ∧
      (after (step (State.reset.startOp 0x6))).map
        (fun s => (s.pending, s.status.busy, s.refusalLog)) =
        some (none, false, [.wrongState]) := by decide

/-- The state of `withFetchWord` runs exactly that word. -/
theorem test_withFetchWord :
    (after (step ((block .configured 0 []).withFetchWord 32 0x14))).map
        (fun s => s.fb.cells.map Prod.snd) = some (List.replicate 8 0x00) := by decide

/-! ### Witnesses: a concrete state and operands for the hypotheses of each obligation -/

/-- RESOLVE in a READY block, held by the sequencer with a host that waits. -/
def running (c : Word) : State := ((blockAt .ready 1 prog2 7 7).startOp c).setInputs
  [.access (.read 0x14 32)]

/-- An idle block with this access before it. -/
def served (a : HostAccess) : State := ((block .ready 1 prog2).setInputs [.during a])

/-- The same while an operation runs. -/
def servedBusy (a : HostAccess) : State := (served a).startOp 0x6

/-- A block that CONFIGURE made FAILED (V-CF-05). -/
def failed : State :=
  { State.reset with status := ⟨.failed, false, .configurationError, .range⟩ }

/-- A block that CONFIGURE made CONFIGURED for the first supported model, whichever that is. -/
def configured : State :=
  { block .configured 0 prog2 with
    cfg := cfgWord 0 Config.firstModel
    window := windowWord (Config.params.window Config.firstModel) }

/-- A block about to run FLUSH that holds every mark. -/
def marked : State :=
  (((running 0x6).markRefused .wrongState).addFault .unwrittenRegister).addHazard .flushWhileAsleep

theorem witness_EncodeOfDecodeIsTheWord : decode 0x00005A21 = .ok (.configure 1 0x5A) := rfl

theorem witness_NoWordMatchesTwoRows :
    ∃ r ∈ opcodeRows, (0x13 : Word) &&& r.mask = r.pattern :=
  ⟨⟨0x00000003, 0xFFFFFFEF, fun c => .setPixel (onField c)⟩, by simp [opcodeRows], by decide⟩

/-- Each of the three ways a CONFIGURE can be unsupported. -/
theorem witness_ReservedEncodingsAreRefused :
    (asked 8 8).status.state = .unconfigured ∧ (asked 8 8).arg0Written = true ∧
      ((2 : BitVec 2) = 2 ∨ (2 : BitVec 2) = 3) ∧ (3 : BitVec 2) = 3 ∧ (5 : Byte) ∉ ti.models := by
  decide

theorem witness_BlockResetRestoresTheResetState :
    ((running 0x6).setInputs [.blockReset]).hostIn = .blockReset :: [] := rfl

theorem witness_StepRunsTheDecodedOperation :
    (running 0x13).Runs 0x13 ∧ decode 0x13 = .ok (.setPixel true) ∧
      ((running 0x13).setInputs []).Runs 0x13 :=
  ⟨⟨rfl, Or.inr ⟨_, _, rfl⟩⟩, rfl, rfl, Or.inl rfl⟩

theorem witness_RefusedWordLeavesOnlyTheMark :
    (running 0x0B).Runs 0x0B ∧ decode 0x0B = .error .reservedOpcode :=
  ⟨⟨rfl, Or.inr ⟨_, _, rfl⟩⟩, rfl⟩

/-- A write and a read of CMD, and an access of the waiting kind. -/
theorem witness_CmdWriteStartsTheOperation :
    (served (.write 0x00 32 0x6)).status.busy = false ∧
      (served (.write 0x00 32 0x6)).Serves (.write 0x00 32 0x6) [] ∧
      (served (.read 0x00 32)).status.busy = false ∧
      (served (.read 0x00 32)).Serves (.read 0x00 32) [] ∧
      (asks State.reset (.write 0x00 32 0x6)).Serves (.write 0x00 32 0x6) [] := by
  refine ⟨rfl, Or.inl rfl, rfl, Or.inl rfl, Or.inr ⟨rfl, rfl⟩⟩

/-- A state in which every readable register can be read, and one in which ARG0 and ARG1 can be read
unwritten: each case of the statement is met. -/
theorem witness_HostReadReturnsTheRegister :
    (∀ o ∈ [(0x04 : BitVec 6), 0x08, 0x0C, 0x10, 0x14, 0x18, 0x1C, 0x20, 0x24],
      ∃ s : State, s.status.busy = false ∧ s.Serves (.read o 32) [] ∧ s.arg0Written = true ∧
        s.arg1Written = true ∧ s.res0Written = true ∧ s.res1Written = true) ∧
      (∀ o : BitVec 6, (served (.read o 32)).status.busy = false ∧
        (served (.read o 32)).Serves (.read o 32) [] ∧
        (served (.read o 32)).arg0Written = false ∧ (served (.read o 32)).arg1Written = false) :=
  ⟨fun o _ => ⟨((blockAt .ready 1 prog2 7 7).setResults 5 0x140).setInputs [.during (.read o 32)],
    rfl, Or.inl rfl, rfl, rfl, rfl, rfl⟩, fun _ => ⟨rfl, Or.inl rfl, rfl, rfl⟩⟩

theorem witness_ReadOfUnwrittenResultFaults :
    (served (.read 0x0C 32)).status.busy = false ∧
      (served (.read 0x0C 32)).Serves (.read 0x0C 32) [] ∧
      (served (.read 0x0C 32)).res0Written = false ∧
      (served (.read 0x10 32)).Serves (.read 0x10 32) [] ∧
      (served (.read 0x10 32)).res1Written = false :=
  ⟨rfl, Or.inl rfl, rfl, Or.inl rfl, rfl⟩

theorem witness_HostWriteStoresTheOperand :
    (served (.write 0x04 32 7)).status.busy = false ∧
      (served (.write 0x04 32 7)).Serves (.write 0x04 32 7) [] ∧
      (served (.write 0x08 32 7)).status.busy = false ∧
      (served (.write 0x08 32 7)).Serves (.write 0x08 32 7) [] :=
  ⟨rfl, Or.inl rfl, rfl, Or.inl rfl⟩

/-- A width, an alignment and the first and last reserved offset, read and written. -/
theorem witness_BadHostAccessesAreRefused :
    (∀ a, (served a).status.busy = false ∧ (served a).Serves a []) ∧
      (8 ≠ 32 ∧ (0x06 : BitVec 6).toNat % 4 ≠ 0 ∧ 0x28 ≤ (0x28 : BitVec 6).toNat ∧
        0x28 ≤ (0x3C : BitVec 6).toNat) ∧
      (16 ≠ 32 ∧ (0x05 : BitVec 6).toNat % 4 ≠ 0 ∧ 0x0C ≤ (0x0C : BitVec 6).toNat) :=
  ⟨fun _ => ⟨rfl, Or.inl rfl⟩, by decide, by decide⟩

theorem witness_BusyBlockAnswersOnlyStatusReads :
    (∀ a, (servedBusy a).status.busy = true ∧ (servedBusy a).Serves a []) ∧
      (HostAccess.write 0x04 32 1 ≠ .read 0x14 32 ∧ HostAccess.read 0x14 8 ≠ .read 0x14 32) :=
  ⟨fun _ => ⟨rfl, Or.inl rfl⟩, by decide⟩

/-- A state outside the set of R88 for each row of its table. -/
theorem witness_OperationsOutsideTheirStatesAreRefused :
    (block .ready 0 []).status.state ≠ .unconfigured ∧ ¬failed.Usable ∧ ¬State.reset.Usable ∧
      (block .ready 0 []).status.state ≠ .configured ∧
      (block .configured 0 []).status.state ≠ .ready := by decide

theorem witness_UnwrittenOperandsFault :
    State.reset.status.state = .unconfigured ∧ State.reset.arg0Written = false ∧
      (block .configured 0 []).Usable ∧ (block .configured 0 []).arg0Written = false ∧
      ((block .ready 0 []).writeArg0 1).Usable ∧
      ((block .ready 0 []).writeArg0 1).arg1Written = false := by decide

theorem witness_FailedBlockStaysFailed :
    failed.status.state = .failed ∧ failed.NoReset ∧ (∃ t, step failed = .next t) ∧
      (failed.setInputs [.blockReset]).status.state = .failed ∧
      ¬(failed.setInputs [.blockReset]).NoReset :=
  ⟨rfl, nofun, ⟨_, rfl⟩, rfl, (fun h => h [] rfl)⟩

/-- One request for each of the five causes, at the edge of its check. -/
theorem witness_ConfigureRaisesTheFirstFailedCheck :
    (∀ w h, (asked w h).status.state = .unconfigured ∧ (asked w h).arg0Written = true) ∧
      (5 : Byte) ∉ ti.models ∧ (0 : Byte) ∈ ti.models ∧ 2 ≤ (2 : BitVec 2).toNat ∧
      (asked 7 8).arg0.toNat % 65536 < 8 ∧ (asked 8 7).arg0.toNat / 65536 < 8 ∧
      ((asked 8 10).arg0.toNat % 65536 = 8 ∧ (asked 8 10).arg0.toNat / 65536 % 4 ≠ 0) ∧
      ((asked 16 65532).arg0.toNat % 65536 % 2 = 0 ∧ (asked 16 65532).arg0.toNat / 65536 % 4 = 0 ∧
        65536 < (asked 16 65532).arg0.toNat % 65536 * ((asked 16 65532).arg0.toNat / 65536) / 8) :=
  ⟨fun _ _ => ⟨rfl, rfl⟩, by decide⟩

/-- The smallest geometry of each orientation and the largest buffer, for a supported model. The same
requests meet the hypotheses of FramebufferBeginsAsTheDraw and TablesHoldTheOrientationsMapping. -/
theorem witness_ConfigureCommitsOrFailsToAllocate :
    (∀ w h, (asked w h).status.state = .unconfigured ∧ (asked w h).arg0Written = true) ∧
      Config.firstModel ∈ Config.params.models ∧
      GeometryOk ((asked 8 8).arg0.toNat % 65536) ((asked 8 8).arg0.toNat / 65536) 0 ∧
      GeometryOk ((asked 8 8).arg0.toNat % 65536) ((asked 8 8).arg0.toNat / 65536) 1 ∧
      GeometryOk ((asked 512 1024).arg0.toNat % 65536) ((asked 512 1024).arg0.toNat / 65536) 0 :=
  ⟨fun _ _ => ⟨rfl, rfl⟩, firstModel_mem, by decide, by decide, by decide⟩

/-- An accepted CONFIGURE of a supported model answers a next state, whatever the draw is. -/
theorem witness_ConfigureFrame :
    (asked 8 8).status.state = .unconfigured ∧ (asked 8 8).arg0Written = true ∧
      ∃ t, exec (.configure 0 Config.firstModel) (asked 8 8) = .next t := by
  refine ⟨rfl, rfl, ?_⟩
  have hv : validate Config.params (widthOperand (asked 8 8).arg0) (heightOperand (asked 8 8).arg0)
      0 Config.firstModel = none :=
    validate_eq_none_iff.2 ⟨firstModel_mem, by decide⟩
  have ha : Accepted (.configure 0 Config.firstModel) (asked 8 8) := ⟨rfl, rfl⟩
  have he : exec (.configure 0 Config.firstModel) (asked 8 8) = _ := guarded_of_accepted ha
  rw [he, hv]
  simp only
  split
  · exact ⟨_, rfl⟩
  · exact ⟨_, rfl⟩

theorem witness_PixelMapIsABijection :
    GeometryOk 8 8 0 ∧ GeometryOk 12 10 1 ∧ GeometryOk 512 1024 0 ∧ GeometryOk 8 65528 0 := by
  decide

/-- The setup of an 8 × 8 block in each orientation; the first and the last pixel are in range. It
serves TableEntriesAreOffsetsAndOneHotMasks, FillSetsEveryByte, FillFrame, FlushStreamsTheWholeBuffer,
FlushEventCounts, SetPixelChangesExactlyThatPixel, WritingThePixelBackRestoresFb and
SetPixelsCommute. -/
theorem witness_Setup :
    (block .configured 0 prog2).Usable ∧ (block .configured 0 prog2).Setup ∧
      (block .ready 1 prog2).Usable ∧ (block .ready 1 prog2).Setup ∧
      7 < (block .ready 1 prog2).width ∧ 7 < (block .ready 1 prog2).height := by decide

/-- RESOLVE and SET_PIXEL in range, at both corners, in both orientations (ResolveInRangeGivesThePair,
SetPixelInRangeRewritesTheByte). -/
theorem witness_InRange :
    (blockAt .configured 0 prog2 0 0).Usable ∧ (blockAt .configured 0 prog2 0 0).Setup ∧
      (blockAt .configured 0 prog2 0 0).arg0Written = true ∧
      (blockAt .configured 0 prog2 0 0).arg1Written = true ∧
      (blockAt .configured 0 prog2 0 0).arg0.toInt = (0 : Nat) ∧
      (blockAt .ready 1 prog2 7 7).Usable ∧ (blockAt .ready 1 prog2 7 7).Setup ∧
      (blockAt .ready 1 prog2 7 7).arg0Written = true ∧
      (blockAt .ready 1 prog2 7 7).arg1Written = true ∧
      (blockAt .ready 1 prog2 7 7).arg0.toInt = (7 : Nat) ∧
      (blockAt .ready 1 prog2 7 7).arg1.toInt = (7 : Nat) := by decide

/-- RESOLVE and SET_PIXEL out of range: x = width, and y = -1 (ResolveOutOfRangeGivesZero,
SetPixelOutOfRangeIsANoOp). -/
theorem witness_OutOfRange :
    (blockAt .configured 0 prog2 8 0).Usable ∧
      (blockAt .configured 0 prog2 8 0).arg0Written = true ∧
      (blockAt .configured 0 prog2 8 0).arg1Written = true ∧
      ¬((blockAt .configured 0 prog2 8 0).arg0.toInt <
        (blockAt .configured 0 prog2 8 0).width) ∧
      ¬(0 ≤ (blockAt .configured 0 prog2 0 (-1)).arg1.toInt) := by decide

/-- A pixel that holds a value, and two different pixels of one byte (SetPixelChangesExactlyThatPixel,
WritingThePixelBackRestoresFb, SetPixelsCommute). -/
theorem witness_Pixels :
    (block .ready 1 prog2).pixel 0 0 = some false ∧ (block .ready 1 prog2).pixel 1 0 = some true ∧
      ((0, 0) : Nat × Nat) ≠ (1, 0) := by decide

/-- Each operation that runs on FB answers a next state, accepted and refused (ResolveFrame,
SetPixelFrame, FillFrame). -/
theorem witness_FramesOfFbOperations :
    (∃ t, exec .resolve (blockAt .ready 1 prog2 7 7) = .next t) ∧
      (∃ t, exec (.setPixel true) (blockAt .ready 1 prog2 7 7) = .next t) ∧
      (∃ t, exec (.fill true) (block .ready 1 prog2) = .next t) ∧
      (∃ t, exec (.fill true) State.reset = .next t) ∧
      inRange 8 8 7 7 = true ∧
      (blockAt .ready 1 prog2 7 7).tableEntry 63 = some (7, 0x01) ∧ inRange 8 8 8 0 = false :=
  ⟨⟨_, rfl⟩, ⟨_, rfl⟩, ⟨_, rfl⟩, ⟨_, rfl⟩, by decide, by decide, by decide⟩

/-- Each operation on the wire answers a next state; a block READY with the panel asleep
(InitEmitsPulseAndBringUp, SleepSendsSleepIn, WakeSendsSleepOutAndWaits, PowerModesSendTheirCommand,
WireOperationsFrame, OnlyAFlushWhileAsleepIsAHazard). -/
theorem witness_WireOperations :
    (block .configured 0 prog2).status.state = .configured ∧
      (∃ t, exec .init (block .configured 0 prog2) = .next t) ∧
      (block .ready 1 prog2).status.state = .ready ∧ (block .ready 1 prog2).panelAsleep = true ∧
      (∃ t, exec .flush (block .ready 1 prog2) = .next t) ∧
      (∃ t, exec .sleep (block .ready 1 prog2) = .next t) ∧
      (∃ t, exec .wake (block .ready 1 prog2) = .next t) ∧
      (∃ t, exec .lowPower (block .ready 1 prog2) = .next t) ∧
      (∃ t, exec .highPower (block .ready 1 prog2) = .next t) :=
  ⟨rfl, ⟨_, rfl⟩, rfl, rfl, ⟨_, rfl⟩, ⟨_, rfl⟩, ⟨_, rfl⟩, ⟨_, rfl⟩, ⟨_, rfl⟩⟩

/-- P_MODELS of TI is non-empty and TI is valid (BringUpTablesMeetTheirConstraint). -/
theorem witness_BringUpTablesMeetTheirConstraint : ti.models ≠ [] ∧ ti.Valid := by
  refine ⟨by decide, by decide, fun m hm => ?_⟩
  rw [List.mem_singleton.1 hm]
  decide

/-- A CONFIGURED block meets the invariant, with an operation to run next (StepKeepsTheInvariant,
StepFromTheInvariantNeverStops). -/
theorem witness_Inv : (configured.startOp 0x14).Inv ∧ ∃ t, step (configured.startOp 0x14) = .next t := by
  have ho : (configured.startOp 0x14).orient = 0 := orient_cfgWord 0 Config.firstModel
  have hm : (configured.startOp 0x14).model = Config.firstModel := model_cfgWord 0 Config.firstModel
  have hw : (configured.startOp 0x14).width = 8 := by decide
  have hh : (configured.startOp 0x14).height = 8 := by decide
  have hS : (configured.startOp 0x14).Setup := by
    unfold State.Setup
    rw [ho, hm, hw, hh]
    exact ⟨by decide, by decide, rfl, by decide, by decide, by decide, rfl, rfl⟩
  refine ⟨⟨by decide, ⟨nofun, nofun, fun _ => ⟨hS, rfl, rfl, rfl⟩, nofun⟩, fun _ => ?_, by decide,
    by decide⟩, ⟨_, rfl⟩⟩
  rw [hm]
  exact ⟨firstModel_mem, rfl⟩

/-- FAILED meets the invariant too, with a non-zero ERR and no reset to come. -/
theorem witness_ErrIsClearedOnlyByBlockReset :
    failed.Inv ∧ failed.status.err ≠ .noError ∧ failed.NoReset ∧ ∃ t, step failed = .next t := by
  refine ⟨⟨by decide, ⟨nofun, fun _ => by decide, nofun, nofun⟩, ?_, by decide, by decide⟩,
    by decide, nofun, ⟨_, rfl⟩⟩
  exact fun h => by rcases h with h | h <;> exact absurd h (by decide)

/-- A READY block about to run FLUSH (StepKeepsTheTraceWellFormed, GeometryIsFixedOnceConfigured,
TheTraceOnlyGrows). -/
theorem witness_Steps :
    traceOk (running 0x6).trace = true ∧ (running 0x6).lines.cs = .deasserted ∧
      (running 0x6).Usable ∧ (running 0x6).NoReset ∧ ∃ t, step (running 0x6) = .next t :=
  ⟨by decide, rfl, by decide, nofun, ⟨_, rfl⟩⟩

/-- A step from a state that holds every mark. -/
theorem witness_MarksAreSticky :
    marked.NoReset ∧ (∃ t, step marked = .next t) ∧ marked.refused = true ∧
      .unwrittenRegister ∈ marked.faults ∧ .flushWhileAsleep ∈ marked.hazards :=
  ⟨nofun, ⟨_, rfl⟩, rfl, by decide, by decide⟩

/-- Each legal transition of STATE starts where R25 says, and an operation after setup that is neither
SET_PIXEL nor FILL (StateTransitionsAreLegal, OnlyResolveWritesTheResults, OnlySetPixelAndFillWriteFb,
EveryOperationEndsWithBusyClear). -/
theorem witness_Operations :
    (∃ t, exec .init (running 0x5) = .next t) ∧ (running 0x5).status.state ≠ .unconfigured ∧
      (∀ on, Instr.init ≠ .setPixel on ∧ Instr.init ≠ .fill on) ∧
      (∃ t, exec .wake (running 0x8) = .next t) :=
  ⟨⟨_, rfl⟩, by decide, by decide, ⟨_, rfl⟩⟩

/-- A step that changes STATE: INIT in a CONFIGURED block, with no reset to come; and a step that runs
no FLUSH (StateTransitionsAreLegal, OnlyAFlushWhileAsleepIsAHazard). -/
theorem witness_StepsOfOperations :
    ((block .configured 0 prog2).startOp 0x5).NoReset ∧
      (∃ t, step ((block .configured 0 prog2).startOp 0x5) = .next t ∧ t.status.state ≠ .configured) ∧
      ∀ c, ((block .configured 0 prog2).startOp 0x5).Runs c → decode c ≠ .ok .flush := by
  refine ⟨nofun, ⟨_, rfl, fun h => by cases h⟩, fun c h => ?_⟩
  obtain rfl : 0x5 = c := Option.some.inj h.1
  decide

/-- A step that serves a refused write while BUSY, and one that serves no write at all, from a state
whose ARG1 nothing has written. -/
theorem witness_OperandsKeepTheirValueUntilWritten :
    (servedBusy (.write 0x08 32 1)).NoReset ∧ (servedBusy (.write 0x08 32 1)).status.busy = true ∧
      (∃ t, step (servedBusy (.write 0x08 32 1)) = .next t) ∧ (asked 8 8).NoReset ∧
      (asked 8 8).arg1Written = false ∧ ∀ v rest, ¬(asked 8 8).Serves (.write 0x08 32 v) rest := by
  refine ⟨nofun, rfl, ⟨_, rfl⟩, nofun, rfl, fun v rest h => ?_⟩
  rcases h with h | ⟨h, -⟩ <;> cases h

/-- Assembler operands at the edges of R91, inside and outside, and a line that assembles. -/
theorem witness_AssembledLinesReadBack :
    ((0 ≤ (65535 : Int) ∧ (65535 : Int) ≤ 65535) ∧ (0 ≤ (3 : Int) ∧ (3 : Int) ≤ 3) ∧
      (0 ≤ (255 : Int) ∧ (255 : Int) ≤ 255)) ∧ ¬((65536 : Int) ≤ 65535) ∧ ¬((4 : Int) ≤ 3) ∧
      ((-2147483648 : Int) ≤ -2147483648 ∧ (2147483647 : Int) ≤ 2147483647) ∧
      ¬((2147483648 : Int) ≤ 2147483647) ∧ (assemble (.configure 8 8 1 0)).isSome = true := by
  decide

end Sys2Proof.Machine.Tests
end

/-! # The statements of 10_state.md -/

namespace Sys2Proof.Machine

/-! ### What an operation past its checks can do -/

/-- Every effect an operation can have once `guarded` has let it pass. -/
inductive ExecEffect (s : State) : Instr → State → Prop
  | raise {orient : BitVec 2} {model : Byte} {c : Cause} (hc : c ≠ .noCause) :
      ExecEffect s (.configure orient model) (raiseError (.configurationError c) s)
  | noMemory (orient : BitVec 2) (model : Byte) :
      ExecEffect s (.configure orient model) (failAllocation s)
  | commit {orient : BitVec 2} {model : Byte}
      (hv : validate Config.params (widthOperand s.arg0) (heightOperand s.arg0) orient model =
        none) :
      ExecEffect s (.configure orient model)
        (commitConfigure Config.params (Config.fbInit s.draws) orient model s)
  | results (r0 r1 : Word) : ExecEffect s .resolve (s.setResults r0 r1).endOp
  | pixel {on : Bool} {a : Nat} {v : Byte} {m : Memory} (hw : s.fb.write a v = some m) :
      ExecEffect s (.setPixel on) (s.setFb m).endOp
  | noPixel (on : Bool) : ExecEffect s (.setPixel on) s.endOp
  | fill {on : Bool} {m : Memory} (hf : s.fb.fill s.bufsize.toNat (fillByte on) = some m) :
      ExecEffect s (.fill on) (s.setFb m).endOp
  | init : ExecEffect s .init ((s.emit (resetPulse Config.params ++
      bringUpEvents Config.params s.model)).setAsleep false).setReady.endOp
  | flush (buffer : List Byte) : ExecEffect s .flush
      (s.noteFlush.emit (flushEvents Config.params (windowOf s.window) buffer)).endOp
  | sleep : ExecEffect s .sleep
      ((s.emit (sendCommand Config.params.opSlpin [])).setAsleep true).endOp
  | wake : ExecEffect s .wake ((s.emit (sendCommand Config.params.opSlpout [] ++
      delayEvent Config.wakeMs)).setAsleep false).endOp
  | lowPower : ExecEffect s .lowPower (s.emit (sendCommand Config.params.opLpm [])).endOp
  | highPower : ExecEffect s .highPower (s.emit (sendCommand Config.params.opHpm [])).endOp

variable {s t : State} {i : Instr}

/-- Everything an operation can do: a check stops it, or it has its effect. -/
theorem exec_cases (h : exec i s = .next t) :
    StoppedEarly i s t ∨ (Accepted i s ∧ ExecEffect s i t) := by
  cases i with
  | configure orient model =>
    refine (execConfigure_cases h).imp_right (And.imp_right ?_)
    rintro (⟨c, hc, rfl⟩ | ⟨hv, ⟨-, rfl⟩ | ⟨-, rfl⟩⟩)
    · exact .raise (validate_ne_noCause hc)
    · exact .noMemory _ _
    · exact .commit hv
  | resolve =>
    refine (execResolve_cases h).imp_right (And.imp_right ?_)
    rintro (⟨-, off, mask, -, rfl⟩ | ⟨-, rfl⟩) <;> exact .results _ _
  | setPixel on =>
    refine (execSetPixel_cases h).imp_right (And.imp_right ?_)
    rintro (⟨-, off, mask, b, m, -, -, hw, rfl⟩ | ⟨-, rfl⟩)
    · exact .pixel hw
    · exact .noPixel on
  | fill on =>
    refine (execFill_cases h).imp_right (And.imp_right ?_)
    rintro ⟨m, hf, rfl⟩
    exact .fill hf
  | init => exact (execInit_cases h).imp_right (And.imp_right (by rintro rfl; exact .init))
  | flush =>
    refine (execFlush_cases h).imp_right (And.imp_right ?_)
    rintro ⟨buffer, -, rfl⟩
    exact .flush buffer
  | sleep => exact (execSleep_cases h).imp_right (And.imp_right (by rintro rfl; exact .sleep))
  | wake => exact (execWake_cases h).imp_right (And.imp_right (by rintro rfl; exact .wake))
  | lowPower =>
    exact (execLowPower_cases h).imp_right (And.imp_right (by rintro rfl; exact .lowPower))
  | highPower =>
    exact (execHighPower_cases h).imp_right (And.imp_right (by rintro rfl; exact .highPower))

/-! ### Records and marks of the shared operations -/

/-- What a refused command word leaves: everything but the marks, BUSY and the sequencer. -/
theorem refuseOp_frame (r : RefusalReason) (s : State) :
    SameArgs s (refuseOp r s) ∧ SameResults s (refuseOp r s) ∧ SameSetup s (refuseOp r s) ∧
      (refuseOp r s).fb = s.fb ∧ SameWire s (refuseOp r s) ∧ SameStatus s (refuseOp r s) ∧
      SamePanel s (refuseOp r s) ∧ SameWorld s (refuseOp r s) := by
  simp [refuseOp, SameArgs, SameResults, SameSetup, SameWire, SameStatus, SamePanel, SameWorld]

/-- REFUSED, FAULTS and HAZARDS hold at `t` what they hold at `s`, and perhaps more (R39). -/
def MarksKept (s t : State) : Prop :=
  (s.refused = true → t.refused = true) ∧ (∀ f ∈ s.faults, f ∈ t.faults) ∧
    ∀ h ∈ s.hazards, h ∈ t.hazards

/-! A sticky set takes a member at its end, if it is new (log entry 23). -/

section StickySet

variable {α : Type} [DecidableEq α] (l : List α) (a : α)

theorem mem_stickyAdd : a ∈ if a ∈ l then l else l ++ [a] := by
  split
  · assumption
  · simp

theorem subset_stickyAdd : l ⊆ if a ∈ l then l else l ++ [a] := by
  split
  · exact List.Subset.refl l
  · exact List.subset_append_left l [a]

theorem nodup_stickyAdd (h : l.Nodup) : (if a ∈ l then l else l ++ [a]).Nodup := by
  split
  · exact h
  · rename_i ha; exact h.append (List.nodup_singleton a) (by simpa using ha)

end StickySet

theorem hazards_subset_noteFlush (s : State) : s.hazards ⊆ s.noteFlush.hazards := by
  rw [State.noteFlush_hazards]
  split
  · exact subset_stickyAdd _ _
  · exact List.Subset.refl _

theorem nodup_noteFlush_hazards (h : s.hazards.Nodup) : s.noteFlush.hazards.Nodup := by
  rw [State.noteFlush_hazards]
  split
  · exact nodup_stickyAdd _ _ h
  · exact h

theorem MarksKept.refl (s : State) : MarksKept s s :=
  ⟨id, fun _ hf => hf, fun _ hh => hh⟩

theorem refuseOp_marksKept (r : RefusalReason) (s : State) : MarksKept s (refuseOp r s) := by
  simp [MarksKept, refuseOp]

theorem StoppedEarly.marksKept (h : StoppedEarly i s t) : MarksKept s t := by
  obtain ⟨-, rfl⟩ | ⟨-, -, rfl⟩ := h
  · exact refuseOp_marksKept _ s
  · exact ⟨id, subset_stickyAdd _ _, fun _ hh => hh⟩

theorem ExecEffect.marksKept (h : ExecEffect s i t) : MarksKept s t := by
  cases h with
  | flush buffer => exact ⟨by simp, by simp, fun _ hh => hazards_subset_noteFlush s hh⟩
  | raise | noMemory | commit | results | pixel | noPixel | fill | init | sleep | wake | lowPower
  | highPower => exact MarksKept.refl s

/-! ### Operations -/

theorem ExecEffect.ends (h : ExecEffect s i t) : t.status.busy = false ∧ t.pending = none := by
  cases h <;> exact ⟨rfl, rfl⟩

theorem exec_ends (h : exec i s = .next t) : t.status.busy = false ∧ t.pending = none := by
  obtain h | ⟨-, h⟩ := exec_cases h
  · obtain ⟨-, -, -, -, -, -, -, -, -, hb, hp⟩ := h.frame
    exact ⟨hb, hp⟩
  · exact h.ends

theorem ExecEffect.args_world (h : ExecEffect s i t) : SameArgs s t ∧ SameWorld s t := by
  cases h <;> simp [SameArgs, SameWorld, raiseError, failAllocation, commitConfigure]

/-- No operation writes an operand register or touches the outside (R21). -/
theorem exec_args_world (h : exec i s = .next t) : SameArgs s t ∧ SameWorld s t := by
  obtain h | ⟨-, h⟩ := exec_cases h
  · obtain ⟨ha, -, -, -, -, -, -, hw, -⟩ := h.frame
    exact ⟨ha, hw⟩
  · exact h.args_world

theorem ExecEffect.results_of_ne_resolve (h : ExecEffect s i t) (hi : i ≠ .resolve) :
    SameResults s t := by
  cases h with
  | results => exact absurd rfl hi
  | raise | noMemory | commit | pixel | noPixel | fill | init | flush | sleep | wake | lowPower
  | highPower => simp [SameResults, raiseError, failAllocation, commitConfigure]


theorem ExecEffect.fb_eq (h : ExecEffect s i t) (hc : ∀ orient model, i ≠ .configure orient model)
    (hi : ∀ on, i ≠ .setPixel on ∧ i ≠ .fill on) : t.fb = s.fb := by
  cases h with
  | raise | noMemory | commit => exact absurd rfl (hc _ _)
  | pixel => exact absurd rfl (hi _).1
  | noPixel on => exact absurd rfl (hi on).1
  | fill => exact absurd rfl (hi _).2
  | results | init | flush | sleep | wake | lowPower | highPower => simp

theorem ExecEffect.sameSetup (h : ExecEffect s i t)
    (hc : ∀ orient model, i ≠ .configure orient model) : SameSetup s t := by
  cases h with
  | raise | noMemory | commit => exact absurd rfl (hc _ _)
  | results | pixel | noPixel | fill | init | flush | sleep | wake | lowPower | highPower =>
    simp [SameSetup]

theorem ExecEffect.trace_append (h : ExecEffect s i t) : ∃ es, t.trace = s.trace ++ es := by
  cases h with
  | init | sleep | wake | lowPower | highPower => exact ⟨_, rfl⟩
  | flush buffer => exact ⟨flushEvents Config.params (windowOf s.window) buffer, by simp⟩
  | raise | noMemory | commit | results | pixel | noPixel | fill => exact ⟨[], by
      simp [raiseError, failAllocation, commitConfigure]⟩

/-- The effects that move STATE (R25). -/
theorem ExecEffect.state_cases (h : ExecEffect s i t) :
    t.status.state = s.status.state ∨
      ((∃ orient model, i = .configure orient model) ∧
        (t.status.state = .configured ∨ (t.status.state = .failed ∧ t.status.err ≠ .noError))) ∨
      (i = .init ∧ t.status.state = .ready) := by
  cases h with
  | raise | noMemory => exact Or.inr (Or.inl ⟨⟨_, _, rfl⟩, Or.inr ⟨rfl, nofun⟩⟩)
  | commit => exact Or.inr (Or.inl ⟨⟨_, _, rfl⟩, Or.inl rfl⟩)
  | init => exact Or.inr (Or.inr ⟨rfl, rfl⟩)
  | results | pixel | noPixel | fill | flush | sleep | wake | lowPower | highPower =>
    exact Or.inl (by simp)

/-! ### The states in which an operation is accepted (R88) -/

theorem State.Usable.ne_unconfigured (hu : s.Usable) : s.status.state ≠ .unconfigured := by
  intro hs
  simp [State.Usable, hs] at hu

theorem State.Usable.ne_failed (hu : s.Usable) : s.status.state ≠ .failed := by
  intro hs
  simp [State.Usable, hs] at hu

theorem Accepted.unconfigured {orient : BitVec 2} {model : Byte}
    (h : Accepted (.configure orient model) s) : s.status.state = .unconfigured := by
  simpa [acceptedIn] using h.1

theorem Accepted.configured (h : Accepted .init s) : s.status.state = .configured := by
  simpa [acceptedIn] using h.1

theorem Accepted.not_failed (h : Accepted i s) : s.status.state ≠ .failed := by
  obtain ⟨ha, -⟩ := h
  intro hf
  rw [hf] at ha
  cases i <;> cases ha

theorem Accepted.ne_configure (h : Accepted i s) (hs : s.status.state ≠ .unconfigured)
    (orient : BitVec 2) (model : Byte) : i ≠ .configure orient model := by
  rintro rfl
  exact hs h.unconfigured

/-- Every operation but CONFIGURE is accepted only once the block is configured. -/
theorem Accepted.usable (h : Accepted i s) (hc : ∀ orient model, i ≠ .configure orient model) :
    s.Usable := by
  obtain ⟨ha, -⟩ := h
  cases i with
  | configure orient model => exact absurd rfl (hc orient model)
  | resolve | setPixel | fill => simpa [acceptedIn, State.Usable] using ha
  | init => exact Or.inl (by simpa [acceptedIn] using ha)
  | flush | sleep | wake | lowPower | highPower => exact Or.inr (by simpa [acceptedIn] using ha)

/-- The wire operations that are accepted in READY only. -/
theorem Accepted.ready (h : Accepted i s)
    (hi : i ∈ [Instr.flush, .sleep, .wake, .lowPower, .highPower] := by decide) :
    s.status.state = .ready := by
  obtain ⟨ha, -⟩ := h
  fin_cases hi <;> simpa [acceptedIn] using ha

/-- R25 for one operation. -/
theorem exec_state_cases (h : exec i s = .next t) :
    t.status.state = s.status.state ∨
      ((∃ orient model, i = .configure orient model) ∧ s.status.state = .unconfigured ∧
        (t.status.state = .configured ∨ (t.status.state = .failed ∧ t.status.err ≠ .noError))) ∨
      (i = .init ∧ s.status.state = .configured ∧ t.status.state = .ready) := by
  obtain h | ⟨ha, h⟩ := exec_cases h
  · obtain ⟨-, -, -, -, -, ⟨hs, -⟩, -⟩ := h.frame
    exact Or.inl hs
  · obtain hs | ⟨⟨orient, model, rfl⟩, hs⟩ | ⟨rfl, hs⟩ := h.state_cases
    · exact Or.inl hs
    · exact Or.inr (Or.inl ⟨⟨orient, model, rfl⟩, ha.unconfigured, hs⟩)
    · exact Or.inr (Or.inr ⟨rfl, ha.configured, hs⟩)

theorem exec_sameSetup (h : exec i s = .next t) (hs : s.status.state ≠ .unconfigured) :
    SameSetup s t := by
  obtain h | ⟨ha, h⟩ := exec_cases h
  · obtain ⟨-, -, hset, -⟩ := h.frame
    exact hset
  · exact h.sameSetup (ha.ne_configure hs)

theorem exec_trace_append (h : exec i s = .next t) : ∃ es, t.trace = s.trace ++ es := by
  obtain h | ⟨-, h⟩ := exec_cases h
  · obtain ⟨-, -, -, -, ⟨-, ht⟩, -⟩ := h.frame
    exact ⟨[], by simp [ht]⟩
  · exact h.trace_append

theorem exec_marksKept (h : exec i s = .next t) : MarksKept s t := by
  obtain h | ⟨-, h⟩ := exec_cases h
  · exact h.marksKept
  · exact h.marksKept

theorem exec_unwritten (ha : acceptedIn i s.status.state = true)
    (hw : operandsWritten i s = false) :
    exec i s = .next (faultOp .unwrittenRegister s) := by
  cases i <;> exact guarded_unwritten ha hw

/-! ### Host accesses -/

theorem regAt_eq_some_iff {offset : BitVec 6} {bits : Nat} {r : HostReg} :
    regAt offset bits = some r ↔ offset = regOffset r ∧ bits = 32 := by
  by_cases hb : bits = 32
  · subst hb
    cases r <;> revert offset <;> decide
  · simp [regAt_bits hb, hb]

@[simp] theorem regAt_regOffset (r : HostReg) : regAt (regOffset r) 32 = some r :=
  regAt_eq_some_iff.2 ⟨rfl, rfl⟩

/-- R65, R66: no register answers another width, alignment or offset. -/
theorem regAt_eq_none {offset : BitVec 6} {bits : Nat}
    (h : bits ≠ 32 ∨ offset.toNat % 4 ≠ 0 ∨ 0x28 ≤ offset.toNat) : regAt offset bits = none := by
  by_cases hb : bits = 32
  · subst hb
    rw [← Option.not_isSome_iff_eq_none, regAt_isSome_iff]
    omega
  · exact regAt_bits hb

theorem isStatusRead_iff {a : HostAccess} : isStatusRead a = true ↔ a = .read 0x14 32 := by
  cases a with
  | read offset bits => simp [isStatusRead, regAt_eq_some_iff, regOffset]
  | write offset bits v => simp [isStatusRead]

theorem hostAccess_busy {a : HostAccess} (hb : s.status.busy = true) (ha : a ≠ .read 0x14 32) :
    hostAccess a s = s.markRefused .busyAccess := by
  have hr : isStatusRead a = false := by
    rwa [← Bool.not_eq_true, isStatusRead_iff]
  simp [hostAccess, hb, hr]

theorem hostAccess_statusRead (s : State) :
    hostAccess (.read 0x14 32) s = s.reply 0x14 (statusWord s.status) := by
  simp only [hostAccess, isStatusRead_iff.2, Bool.true_eq_false, and_false, if_false]
  exact hostRead_of_value (r := .status) (regAt_regOffset .status) rfl

/-- A host access changes the operands, the marks, BUSY and the sequencer only. -/
theorem hostAccess_frame (a : HostAccess) (s : State) :
    SameResults s (hostAccess a s) ∧ SameSetup s (hostAccess a s) ∧ (hostAccess a s).fb = s.fb ∧
      SameWire s (hostAccess a s) ∧ SameStatus s (hostAccess a s) ∧ SamePanel s (hostAccess a s) ∧
      (hostAccess a s).resets = s.resets := by
  obtain ⟨r, h⟩ | h | ⟨o, v, h⟩ | ⟨-, ⟨v, h⟩ | ⟨v, h⟩ | ⟨c, h⟩⟩ := hostAccess_cases a s <;>
    simp [h, SameResults, SameSetup, SameWire, SameStatus, SamePanel]

theorem hostAccess_marksKept (a : HostAccess) (s : State) : MarksKept s (hostAccess a s) := by
  obtain ⟨r, h⟩ | h | ⟨o, v, h⟩ | ⟨-, ⟨v, h⟩ | ⟨v, h⟩ | ⟨c, h⟩⟩ := hostAccess_cases a s
  case inr.inl => rw [h]; exact ⟨id, subset_stickyAdd _ _, fun _ hh => hh⟩
  all_goals simp [h, MarksKept]

/-! ### Steps that are no block reset -/

/-- Everything such a step can do: serve an access, refuse or run a command word, or nothing. -/
theorem step_noReset_cases (hn : s.NoReset) (h : step s = .next t) :
    (∃ a rest, s.Serves a rest ∧ t = hostAccess a (s.setInputs rest)) ∨
      (∃ r, t = refuseOp r s) ∨ (∃ c i, s.Runs c ∧ decode c = .ok i ∧ exec i s = .next t) ∨
      t = s := by
  obtain ⟨rest, hm, -⟩ | ⟨a, rest, hm, ht⟩ | ⟨c, hm, -, hc⟩ | ⟨-, ht⟩ := step_cases h
  · exact absurd (hostIn_of_nextMove_reset hm) (hn rest)
  · exact Or.inl ⟨a, rest, serves_of_nextMove hm, ht⟩
  · obtain ⟨r, -, ht⟩ | ⟨i, hi, he⟩ := runCommand_cases hc
    · exact Or.inr (Or.inl ⟨r, ht⟩)
    · exact Or.inr (Or.inr (Or.inl ⟨c, i, runs_of_nextMove hm, hi, he⟩))
  · exact Or.inr (Or.inr (Or.inr ht))

end Sys2Proof.Machine

/-! # The invariant of the block -/

namespace Sys2Proof.Machine

variable {s t : State} {i : Instr}

/-! ### The invariant and the parts of the state it reads -/

theorem State.Inv.of_same (h : s.Inv) (hset : SameSetup s t) (hfb : t.fb = s.fb)
    (hwire : SameWire s t) (hst : SameStatus s t) (ha : t.panelAsleep = s.panelAsleep)
    (hm : t.MarksInv) : t.Inv := by
  obtain ⟨hwf, hS, hP, hW, -⟩ := h
  obtain ⟨hg, hc, hb, hw, hmap⟩ := hset
  obtain ⟨hl, htr⟩ := hwire
  obtain ⟨hstate, herr, hcause⟩ := hst
  refine ⟨hfb ▸ hwf, ?_, ?_, ?_, hm⟩
  · simp only [State.SetupInv, State.Absent, State.Setup, State.width, State.height, State.orient,
      State.model, hg, hc, hb, hw, hmap, hfb, hl, htr, hstate, herr, hcause, ha]
    exact hS
  · simp only [State.PanelInv, State.model, hstate, hc, hw]
    exact hP
  · simp only [State.WireInv, hl, htr]
    exact hW

theorem State.Inv.setup (h : s.Inv) (hu : s.Usable) : s.Setup := by
  obtain ⟨-, ⟨-, -, hconf, hready⟩, -⟩ := h
  obtain hs | hs := hu
  · exact (hconf hs).1
  · exact hready hs

theorem State.Setup.dense (h : s.Setup) : s.fb.Dense (bufferSize s.width s.height) := by
  obtain ⟨-, -, -, -, -, hdense, -⟩ := h
  exact hdense

theorem State.Inv.absent (h : s.Inv) (hs : s.status.state = .unconfigured) :
    s.Absent ∧ s.status.err = .noError ∧ s.status.cause = .noCause := by
  obtain ⟨-, ⟨hunconf, -⟩, -⟩ := h
  exact hunconf hs

theorem State.Inv.marks (h : s.Inv) : s.MarksInv := by
  obtain ⟨-, -, -, -, hM⟩ := h
  exact hM

theorem State.Inv.failed_of_err (h : s.Inv) (he : s.status.err ≠ .noError) :
    s.status.state = .failed := by
  cases hs : s.status.state with
  | unconfigured =>
    obtain ⟨-, hne, -⟩ := h.absent hs
    exact absurd hne he
  | configured | ready =>
    obtain ⟨-, -, -, -, -, -, hne, -⟩ := h.setup (by simp [State.Usable, hs])
    exact absurd hne he
  | failed => rfl

/-- In READY the invariant asks for no more than the setup, the panel's ids, the wire and the
marks. -/
theorem State.inv_of_ready (hr : t.status.state = .ready) (hS : t.Setup)
    (hP : t.PanelInv Config.params) (hW : t.WireInv Config.params) (hM : t.MarksInv) : t.Inv := by
  refine ⟨hS.dense.wf, ⟨?_, ?_, ?_, fun _ => hS⟩, hP, hW, hM⟩ <;> intro hs <;>
    exact absurd (hr.symm.trans hs) (by decide)

/-! ### MarksInv under the updates -/

theorem refuseOp_marksInv (r : RefusalReason) (h : s.MarksInv) : (refuseOp r s).MarksInv := by
  obtain ⟨-, -, hf, hh, hr⟩ := h
  exact ⟨rfl, by simp [refuseOp], hf, hh, hr⟩

theorem StoppedEarly.marksInv (hstop : StoppedEarly i s t) (h : s.MarksInv) : t.MarksInv := by
  obtain ⟨-, rfl⟩ | ⟨-, -, rfl⟩ := hstop
  · exact refuseOp_marksInv _ h
  · obtain ⟨-, hlog, hf, hh, hr⟩ := h
    exact ⟨rfl, hlog, nodup_stickyAdd _ _ hf, hh, hr⟩

theorem hostAccess_marksInv (a : HostAccess) (h : s.MarksInv) : (hostAccess a s).MarksInv := by
  obtain ⟨hb, hlog, hf, hh, hr⟩ := h
  obtain ⟨r, h⟩ | h | ⟨o, v, h⟩ | ⟨-, ⟨v, h⟩ | ⟨v, h⟩ | ⟨c, h⟩⟩ := hostAccess_cases a s <;> rw [h]
  · exact ⟨hb, by simp, hf, hh, hr⟩
  · exact ⟨hb, hlog, nodup_stickyAdd _ _ hf, hh, hr⟩
  · exact ⟨hb, hlog, hf, hh, hr⟩
  · exact ⟨hb, hlog, hf, hh, hr⟩
  · exact ⟨hb, hlog, hf, hh, hr⟩
  · exact ⟨rfl, hlog, hf, hh, hr⟩

/-! ### The invariant under the updates -/

theorem State.Inv.endOp (h : s.Inv) : s.endOp.Inv :=
  h.of_same (by simp [SameSetup]) rfl ⟨rfl, rfl⟩ ⟨rfl, rfl, rfl⟩ rfl (marksInv_endOp h.marks)

theorem State.Inv.setResults (h : s.Inv) (r0 r1 : Word) : (s.setResults r0 r1).Inv := by
  refine h.of_same (by simp [SameSetup]) rfl ⟨rfl, rfl⟩ ⟨rfl, rfl, rfl⟩ rfl ?_
  obtain ⟨hb, hlog, hf, hh, -⟩ := h.marks
  exact ⟨hb, hlog, hf, hh, rfl⟩

theorem State.Inv.noteFlush (h : s.Inv) : s.noteFlush.Inv := by
  refine h.of_same (by simp [SameSetup]) (by simp) (by simp [SameWire]) (by simp [SameStatus])
    (by simp) ?_
  obtain ⟨hb, hlog, hf, hh, hr⟩ := h.marks
  exact ⟨by simpa using hb, by simpa using hlog, by simpa using hf, nodup_noteFlush_hazards hh,
    by simpa using hr⟩

/-- FB takes other bytes at the same addresses. -/
theorem State.Inv.setFb (h : s.Inv) (hu : s.Usable) {m : Memory}
    (hm : m.addresses = s.fb.addresses) : (s.setFb m).Inv := by
  obtain ⟨hgeo, hgeom, hcfg, hbuf, hmap, hdense, herr⟩ := h.setup hu
  have hdense' : m.Dense (bufferSize s.width s.height) := hm.trans hdense
  have hS : (s.setFb m).Setup := ⟨hgeo, hgeom, hcfg, hbuf, hmap, hdense', herr⟩
  obtain ⟨-, ⟨-, -, hconf, -⟩, hP, hW, hM⟩ := h
  exact ⟨hdense'.wf, ⟨fun hs => absurd hs hu.ne_unconfigured, fun hs => absurd hs hu.ne_failed,
    fun hs => ⟨hS, (hconf hs).2⟩, fun _ => hS⟩, hP, hW, hM⟩

theorem State.Inv.setReady (h : s.Inv) (hs : s.status.state = .configured) : s.setReady.Inv := by
  have hS : s.setReady.Setup := (h.setup (Or.inl hs)).of_same ⟨rfl, rfl, rfl, rfl, rfl⟩ rfl rfl rfl
  obtain ⟨-, -, hP, hW, hM⟩ := h
  exact State.inv_of_ready rfl hS (fun _ => hP (Or.inl hs)) hW hM

theorem State.Inv.emit (h : s.Inv) (hs : s.status.state = .ready) {es : List Event}
    (hes : Whole es) (hrst : rstFitted Config.params.hasRst es = true) : (s.emit es).Inv := by
  have hS : s.Setup := h.setup (Or.inr hs)
  obtain ⟨-, -, hP, hW, hM⟩ := h
  exact State.inv_of_ready hs hS hP (wireInv_emit hW hes hrst) hM

theorem State.Inv.setAsleep (h : s.Inv) (hs : s.status.state = .ready) (b : Bool) :
    (s.setAsleep b).Inv := by
  have hS : s.Setup := h.setup (Or.inr hs)
  obtain ⟨-, -, hP, hW, hM⟩ := h
  exact State.inv_of_ready hs hS hP hW hM

/-! ### The invariant under CONFIGURE -/

/-- An error entry leaves everything absent and ERR and CAUSE those of the error (R203). -/
theorem State.Inv.raise (h : s.Inv) (hs : s.status.state = .unconfigured) {e : BlockError}
    (he : (e.err = .configurationError ∧ e.cause ≠ .noCause) ∨
      (e.err = .allocationFailure ∧ e.cause = .noCause)) : (raiseError e s).Inv := by
  obtain ⟨habs, -⟩ := h.absent hs
  obtain ⟨hwf, -, -, hW, -, hmarks⟩ := h
  exact ⟨hwf, ⟨nofun, fun _ => ⟨habs, he⟩, nofun, nofun⟩, nofun, hW, rfl, hmarks⟩

theorem State.Inv.noMemory (h : s.Inv) (hs : s.status.state = .unconfigured) :
    (failAllocation s).Inv :=
  have hdraw : ({ s with draws := s.draws + 1 } : State).Inv := h
  hdraw.raise hs (Or.inr ⟨rfl, rfl⟩)

/-- What CONFIGURE sets up when no check fails (R114). -/
theorem commitConfigure_setup {orient : BitVec 2} {model : Byte} {fbInit : Nat → Byte} {p : Params}
    (hgeo : GeometryOk (widthOperand s.arg0) (heightOperand s.arg0) orient)
    (he : s.status.err = .noError) (hc : s.status.cause = .noCause) :
    (commitConfigure p fbInit orient model s).Setup := by
  have hw : (commitConfigure p fbInit orient model s).width = widthOperand s.arg0 :=
    State.width_of_geom rfl (widthOperand_lt _)
  have hh : (commitConfigure p fbInit orient model s).height = heightOperand s.arg0 :=
    State.height_of_geom rfl (heightOperand_lt _)
  have ho : (commitConfigure p fbInit orient model s).orient = orient := State.orient_of_cfg rfl
  have hm : (commitConfigure p fbInit orient model s).model = model := State.model_of_cfg rfl
  unfold State.Setup
  rw [hw, hh, ho, hm]
  exact ⟨hgeo, rfl, rfl, rfl, rfl, Memory.create_dense _ _, he, hc⟩

theorem State.Inv.commit (h : s.Inv) (hs : s.status.state = .unconfigured)
    {orient : BitVec 2} {model : Byte} {fbInit : Nat → Byte}
    (hv : validate Config.params (widthOperand s.arg0) (heightOperand s.arg0) orient model = none) :
    (commitConfigure Config.params fbInit orient model s).Inv := by
  obtain ⟨hmodel, hgeo⟩ := validate_eq_none_iff.1 hv
  obtain ⟨⟨-, -, -, -, -, -, hl, htr, ha⟩, he, hc⟩ := h.absent hs
  obtain ⟨-, -, -, hW, -, hmarks⟩ := h
  have hS :=
    commitConfigure_setup (model := model) (fbInit := fbInit) (p := Config.params) hgeo he hc
  have hm : (commitConfigure Config.params fbInit orient model s).model = model :=
    State.model_of_cfg rfl
  refine ⟨Memory.create_wf _ _, ⟨nofun, nofun, fun _ => ⟨hS, hl, htr, ha⟩, nofun⟩, fun _ => ?_, hW,
    rfl, hmarks⟩
  rw [hm]
  exact ⟨hmodel, rfl⟩

/-! ### The invariant under every step -/

theorem ExecEffect.keeps_inv (he : ExecEffect s i t) (hacc : Accepted i s) (h : s.Inv) : t.Inv := by
  cases he with
  | raise hc => exact h.raise hacc.unconfigured (Or.inl ⟨rfl, hc⟩)
  | noMemory => exact h.noMemory hacc.unconfigured
  | commit hv => exact h.commit hacc.unconfigured hv
  | results r0 r1 => exact (h.setResults r0 r1).endOp
  | pixel hw => exact (h.setFb (hacc.usable nofun) (Memory.write_addresses hw)).endOp
  | noPixel => exact h.endOp
  | fill hf => exact (h.setFb (hacc.usable nofun) (Memory.fill_spec hf).1).endOp
  | init =>
    exact (((h.setReady hacc.configured).emit rfl
      ((resetPulse_whole _).append (bringUpEvents_whole _ _))
      (rstFitted_append (resetPulse_rstFitted _) (bringUpEvents_rstFitted _ _ _))).setAsleep rfl
      false).endOp
  | flush buffer =>
    exact (h.noteFlush.emit (by simpa using hacc.ready) (flushEvents_whole _ _ _)
      (flushEvents_rstFitted _ _ _ _)).endOp
  | sleep =>
    exact ((h.emit hacc.ready (sendCommand_whole _ _) (sendCommand_rstFitted _ _ _)).setAsleep
      hacc.ready true).endOp
  | wake =>
    exact ((h.emit hacc.ready ((sendCommand_whole _ _).append (delayEvent_whole _))
      (rstFitted_append (sendCommand_rstFitted _ _ _) (delayEvent_rstFitted _ _))).setAsleep
      hacc.ready false).endOp
  | lowPower | highPower =>
    exact (h.emit hacc.ready (sendCommand_whole _ _) (sendCommand_rstFitted _ _ _)).endOp

theorem exec_keeps_inv (h : s.Inv) (he : exec i s = .next t) : t.Inv := by
  obtain hstop | ⟨hacc, he⟩ := exec_cases he
  · obtain ⟨-, -, hset, hfb, hwire, hst, ⟨ha, -⟩, -⟩ := hstop.frame
    exact h.of_same hset hfb hwire hst ha (hstop.marksInv h.marks)
  · exact he.keeps_inv hacc h

theorem refuseOp_keeps_inv (h : s.Inv) (r : RefusalReason) : (refuseOp r s).Inv := by
  obtain ⟨-, -, hset, hfb, hwire, hst, ⟨ha, -⟩, -⟩ := refuseOp_frame r s
  exact h.of_same hset hfb hwire hst ha (refuseOp_marksInv r h.marks)

theorem hostAccess_keeps_inv (h : s.Inv) (a : HostAccess) : (hostAccess a s).Inv := by
  obtain ⟨-, hset, hfb, hwire, hst, ⟨ha, -⟩, -⟩ := hostAccess_frame a s
  exact h.of_same hset hfb hwire hst ha (hostAccess_marksInv a h.marks)

/-- A block reset meets the invariant, in whatever state it comes. -/
theorem blockReset_inv (s : State) : (blockReset s).Inv :=
  ⟨rfl, ⟨fun _ => ⟨⟨rfl, rfl, rfl, rfl, rfl, rfl, rfl, rfl, rfl⟩, rfl, rfl⟩, nofun, nofun, nofun⟩,
    nofun, ⟨rfl, rfl, rfl, rfl⟩, rfl, rfl, List.nodup_nil, List.nodup_nil, rfl⟩

/-- Settles O47: of what the invariant reads, a host access and a stopped operation move only the
marks, BUSY and the sequencer; each effect of an operation keeps the clauses of its STATE. -/
theorem stepKeepsTheInvariant : Obligations.StepKeepsTheInvariant := by
  intro s t h hstep
  obtain ⟨rest, -, rfl⟩ | ⟨a, rest, -, rfl⟩ | ⟨c, -, -, hc⟩ | ⟨-, rfl⟩ := step_cases hstep
  · exact blockReset_inv _
  · have hin : (s.setInputs rest).Inv := h
    exact hostAccess_keeps_inv hin a
  · obtain ⟨r, -, rfl⟩ | ⟨i, -, he⟩ := runCommand_cases hc
    · exact refuseOp_keeps_inv h r
    · exact exec_keeps_inv h he
  · exact h

end Sys2Proof.Machine

/-! # What every step keeps -/

namespace Sys2Proof.Machine

/-- Settles O50: STATE moves only with an effect of CONFIGURE or INIT, each accepted in one
state. -/
theorem stateTransitionsAreLegal : Obligations.StateTransitionsAreLegal := by
  refine ⟨fun i s t => exec_state_cases, fun a s => ?_, fun s t hn h hne => ?_⟩
  · obtain ⟨-, -, -, -, ⟨hs, -⟩, -⟩ := hostAccess_frame a s
    exact hs
  · obtain ⟨a, rest, -, rfl⟩ | ⟨r, rfl⟩ | hrun | rfl := step_noReset_cases hn h
    · obtain ⟨-, -, -, -, ⟨hs, -⟩, -⟩ := hostAccess_frame a (s.setInputs rest)
      exact absurd hs hne
    · exact absurd rfl hne
    · exact hrun
    · exact absurd rfl hne

/-- Settles O51: by the invariant a block with an error is FAILED, where no operation is
accepted. -/
theorem errIsClearedOnlyByBlockReset : Obligations.ErrIsClearedOnlyByBlockReset := by
  intro s t hinv herr hn h
  have hfailed : s.status.state = .failed := hinv.failed_of_err herr
  obtain ⟨a, rest, -, rfl⟩ | ⟨r, rfl⟩ | ⟨c, i, -, -, he⟩ | rfl := step_noReset_cases hn h
  · obtain ⟨-, -, -, -, ⟨-, he⟩, -⟩ := hostAccess_frame a (s.setInputs rest)
    exact he
  · exact ⟨rfl, rfl⟩
  · obtain hstop | ⟨hacc, -⟩ := exec_cases he
    · obtain ⟨-, -, -, -, -, ⟨-, he⟩, -⟩ := hstop.frame
      exact he
    · exact absurd hfailed hacc.not_failed
  · exact ⟨rfl, rfl⟩

/-- Settles O52: only CONFIGURE writes the setup registers, and it is not accepted again. -/
theorem geometryIsFixedOnceConfigured : Obligations.GeometryIsFixedOnceConfigured := by
  intro s t hu hn h
  have hkeep {u : State} (hs : u.status.state = s.status.state) : u.Usable := by
    simpa only [State.Usable, hs] using hu
  obtain ⟨a, rest, -, rfl⟩ | ⟨r, rfl⟩ | ⟨c, i, -, -, he⟩ | rfl := step_noReset_cases hn h
  · obtain ⟨-, hset, -, -, ⟨hs, -⟩, -⟩ := hostAccess_frame a (s.setInputs rest)
    exact ⟨hset, hkeep hs⟩
  · exact ⟨⟨rfl, rfl, rfl, rfl, rfl⟩, hu⟩
  · refine ⟨exec_sameSetup he hu.ne_unconfigured, ?_⟩
    obtain hs | ⟨-, hs, -⟩ | ⟨-, -, hs⟩ := exec_state_cases he
    · exact hkeep hs
    · exact absurd hs hu.ne_unconfigured
    · exact Or.inr hs
  · exact ⟨⟨rfl, rfl, rfl, rfl, rfl⟩, hu⟩

/-- Settles O53: no effect writes an operand, and only RESOLVE's writes the results. -/
theorem onlyResolveWritesTheResults : Obligations.OnlyResolveWritesTheResults := by
  refine ⟨fun i s t h => ⟨(exec_args_world h).1, fun hi => ?_⟩, fun a s => (hostAccess_frame a s).1⟩
  obtain hstop | ⟨-, he⟩ := exec_cases h
  · obtain ⟨-, hres, -⟩ := hstop.frame
    exact hres
  · exact he.results_of_ne_resolve hi

/-- Settles O54: past its checks, an operation after setup is no CONFIGURE. -/
theorem onlySetPixelAndFillWriteFb : Obligations.OnlySetPixelAndFillWriteFb := by
  refine ⟨fun i s t h hs hi => ?_, fun a s => ?_⟩
  · obtain hstop | ⟨hacc, he⟩ := exec_cases h
    · obtain ⟨-, -, -, hfb, -⟩ := hstop.frame
      exact hfb
    · exact he.fb_eq (hacc.ne_configure hs) hi
  · obtain ⟨-, -, hfb, -⟩ := hostAccess_frame a s
    exact hfb

/-- Settles O55: the marks only take members, by an access, at a check, or in FLUSH. -/
theorem marksAreSticky : Obligations.MarksAreSticky := by
  intro s t hn h
  obtain ⟨a, rest, -, rfl⟩ | ⟨r, rfl⟩ | ⟨c, i, -, -, he⟩ | rfl := step_noReset_cases hn h
  · exact hostAccess_marksKept a (s.setInputs rest)
  · exact refuseOp_marksKept r s
  · exact exec_marksKept he
  · exact MarksKept.refl _

/-- Settles O56: an effect appends its events, and nothing else touches the wire. -/
theorem theTraceOnlyGrows : Obligations.TheTraceOnlyGrows := by
  have hwire (a : HostAccess) (s : State) : SameWire s (hostAccess a s) := by
    obtain ⟨-, -, -, hwire, -⟩ := hostAccess_frame a s
    exact hwire
  refine ⟨fun s t hn h => ?_, hwire⟩
  obtain ⟨a, rest, -, rfl⟩ | ⟨r, rfl⟩ | ⟨c, i, -, -, he⟩ | rfl := step_noReset_cases hn h
  · exact ⟨[], by simp [(hwire a (s.setInputs rest)).2]⟩
  · exact ⟨[], by simp [refuseOp]⟩
  · exact exec_trace_append he
  · exact ⟨[], by simp⟩

/-- Settles O57: every effect and every stop at a check passes through `endOp`. -/
theorem everyOperationEndsWithBusyClear : Obligations.EveryOperationEndsWithBusyClear :=
  fun _ _ _ => exec_ends

/-! ### The operand registers between host writes -/

variable {s t : State}

theorem hostRead_sameArgs (offset : BitVec 6) (bits : Nat) (s : State) :
    SameArgs s (hostRead offset bits s) := by
  unfold hostRead
  split
  · exact ⟨rfl, rfl, rfl, rfl⟩
  · split <;> exact ⟨rfl, rfl, rfl, rfl⟩

/-- A host write reaches CMD, ARG0 or ARG1, or it is refused (R43). -/
theorem hostWrite_cases (offset : BitVec 6) (bits : Nat) (v : Word) (s : State) :
    (bits = 32 ∧ ((offset = 0x00 ∧ hostWrite offset bits v s = s.startOp v) ∨
      (offset = 0x04 ∧ hostWrite offset bits v s = s.writeArg0 v) ∨
      (offset = 0x08 ∧ hostWrite offset bits v s = s.writeArg1 v))) ∨
    hostWrite offset bits v s = s.markRefused .badHostAccess := by
  unfold hostWrite
  split
  · rename_i hr; obtain ⟨ho, hb⟩ := regAt_eq_some_iff.1 hr; exact Or.inl ⟨hb, Or.inl ⟨ho, rfl⟩⟩
  · rename_i hr; obtain ⟨ho, hb⟩ := regAt_eq_some_iff.1 hr
    exact Or.inl ⟨hb, Or.inr (Or.inl ⟨ho, rfl⟩)⟩
  · rename_i hr; obtain ⟨ho, hb⟩ := regAt_eq_some_iff.1 hr
    exact Or.inl ⟨hb, Or.inr (Or.inr ⟨ho, rfl⟩)⟩
  · exact Or.inr rfl

/-- A host access keeps the operands unless it is an accepted write of one of them. -/
theorem hostAccess_args_cases (a : HostAccess) (s : State) :
    SameArgs s (hostAccess a s) ∨ (s.status.busy = false ∧ ∃ v,
      (a = .write 0x04 32 v ∧ hostAccess a s = s.writeArg0 v) ∨
      (a = .write 0x08 32 v ∧ hostAccess a s = s.writeArg1 v)) := by
  cases hb : s.status.busy with
  | true =>
    left
    by_cases ha : a = .read 0x14 32
    · subst ha; rw [hostAccess_statusRead]; exact ⟨rfl, rfl, rfl, rfl⟩
    · rw [hostAccess_busy hb ha]; exact ⟨rfl, rfl, rfl, rfl⟩
  | false =>
    cases a with
    | read offset bits => rw [hostAccess_read hb]; exact Or.inl (hostRead_sameArgs _ _ s)
    | write offset bits v =>
      rw [hostAccess_write hb]
      obtain ⟨rfl, ⟨rfl, h⟩ | ⟨rfl, h⟩ | ⟨rfl, h⟩⟩ | h := hostWrite_cases offset bits v s
      · rw [h]; exact Or.inl ⟨rfl, rfl, rfl, rfl⟩
      · exact Or.inr ⟨rfl, v, Or.inl ⟨rfl, h⟩⟩
      · exact Or.inr ⟨rfl, v, Or.inr ⟨rfl, h⟩⟩
      · rw [h]; exact Or.inl ⟨rfl, rfl, rfl, rfl⟩

/-- A step that is no block reset keeps the operands unless it serves an accepted write of one. -/
theorem step_args_cases (hn : s.NoReset) (h : step s = .next t) :
    t.resets = s.resets ∧ (SameArgs s t ∨ (s.status.busy = false ∧ ∃ v rest,
      (s.Serves (.write 0x04 32 v) rest ∧ t = (s.setInputs rest).writeArg0 v) ∨
      (s.Serves (.write 0x08 32 v) rest ∧ t = (s.setInputs rest).writeArg1 v))) := by
  obtain ⟨a, rest, hserves, rfl⟩ | ⟨r, rfl⟩ | ⟨c, i, -, -, he⟩ | rfl := step_noReset_cases hn h
  · obtain ⟨-, -, -, -, -, -, hresets⟩ := hostAccess_frame a (s.setInputs rest)
    refine ⟨hresets, ?_⟩
    obtain hsame | ⟨hb, v, ⟨rfl, hw⟩ | ⟨rfl, hw⟩⟩ := hostAccess_args_cases a (s.setInputs rest)
    · exact Or.inl hsame
    · exact Or.inr ⟨hb, v, rest, Or.inl ⟨hserves, hw⟩⟩
    · exact Or.inr ⟨hb, v, rest, Or.inr ⟨hserves, hw⟩⟩
  · exact ⟨rfl, Or.inl ⟨rfl, rfl, rfl, rfl⟩⟩
  · obtain ⟨hargs, -, -, hresets⟩ := exec_args_world he
    exact ⟨hresets, Or.inl hargs⟩
  · exact ⟨rfl, Or.inl ⟨rfl, rfl, rfl, rfl⟩⟩

/-- Settles O59: what a read of an operand returns depends on the register and the count of
resets. -/
theorem operandsKeepTheirValueUntilWritten : Obligations.OperandsKeepTheirValueUntilWritten := by
  intro s t hn h
  obtain ⟨hresets, ⟨h0, h1, hw0, hw1⟩ | ⟨hb, v, rest, ⟨hserves, rfl⟩ | ⟨hserves, rfl⟩⟩⟩ :=
    step_args_cases hn h
  · exact ⟨fun _ => ⟨readReg_arg0_congr hresets h0 hw0, hw0⟩,
      fun _ => ⟨readReg_arg1_congr hresets h1 hw1, hw1⟩⟩
  · exact ⟨fun hno => (hno.resolve_left (by simp [hb]) v rest hserves).elim, fun _ => ⟨rfl, rfl⟩⟩
  · exact ⟨fun _ => ⟨rfl, rfl⟩, fun hno => (hno.resolve_left (by simp [hb]) v rest hserves).elim⟩

end Sys2Proof.Machine

/-! # The host port and the start of an operation -/

namespace Sys2Proof.Machine

/-! ### What an access of each register does (R33, R43) -/

theorem hostWrite_cmd (c : Word) (s : State) : hostWrite (regOffset .cmd) 32 c s = s.startOp c := by
  simp [hostWrite]

theorem hostWrite_arg0 (v : Word) (s : State) :
    hostWrite (regOffset .arg0) 32 v s = s.writeArg0 v := by
  simp [hostWrite]

theorem hostWrite_arg1 (v : Word) (s : State) :
    hostWrite (regOffset .arg1) 32 v s = s.writeArg1 v := by
  simp [hostWrite]

theorem hostRead_cmd (s : State) :
    hostRead (regOffset .cmd) 32 s = s.markRefused .badHostAccess := by
  simp [hostRead, readReg]

theorem hostRead_of_unwritten {s : State} {r : HostReg} (hv : readReg s r = .unwritten) :
    hostRead (regOffset r) 32 s = s.addFault .unwrittenRegister := by
  simp [hostRead, hv]

/-! ### The statements about single steps -/

/-- Settles O14: no register answers the access, or it is none of the three that are written. -/
theorem badHostAccessesAreRefused : Obligations.BadHostAccessesAreRefused := by
  intro s a rest hb hs ha
  cases a with
  | read offset bits =>
    rw [step_of_read hb hs, hostRead, regAt_eq_none ha]
    rfl
  | write offset bits v =>
    rw [step_of_write hb hs]
    obtain ⟨rfl, ⟨rfl, -⟩ | ⟨rfl, -⟩ | ⟨rfl, -⟩⟩ | h :=
      hostWrite_cases offset bits v (s.setInputs rest)
    · simp at ha
    · simp at ha
    · simp at ha
    · rw [h]
      rfl

/-- Settles O15: BUSY decides between the one accepted access and the refusal. -/
theorem busyBlockAnswersOnlyStatusReads : Obligations.BusyBlockAnswersOnlyStatusReads := by
  intro s a rest hb hs
  have hb' : (s.setInputs rest).status.busy = true := hb
  constructor
  · rintro rfl
    rw [step_of_serves hs, hostAccess_statusRead, statusWord_eq, hb', if_pos rfl]
    rfl
  · intro ha
    rw [step_of_serves hs, hostAccess_busy hb' ha]
    rfl

/-- Settles O17: the operation is accepted and its operand check fails. -/
theorem unwrittenOperandsFault : Obligations.UnwrittenOperandsFault := by
  intro i s h
  have hstop : acceptedIn i s.status.state = true ∧ operandsWritten i s = false := by
    obtain ⟨⟨orient, model, rfl⟩, hs, hw⟩ | ⟨rfl | ⟨on, rfl⟩, hs, hw⟩ := h
    · simp [acceptedIn, operandsWritten, hs, hw]
    · exact ⟨by simpa [acceptedIn] using hs, Bool.and_eq_false_iff.2 hw⟩
    · exact ⟨by simpa [acceptedIn] using hs, Bool.and_eq_false_iff.2 hw⟩
  obtain ⟨ha, hw⟩ := hstop
  exact ⟨_, exec_unwritten ha hw, mem_stickyAdd _ _, subset_stickyAdd _ _⟩

/-- Settles O8: nothing stands between the step and the decoded operation. -/
theorem stepRunsTheDecodedOperation : Obligations.StepRunsTheDecodedOperation := by
  intro s c i hr hd
  rw [step_of_runs hr, runCommand, hd]

/-- Settles O10: the register at offset 0 is CMD. -/
theorem cmdWriteStartsTheOperation : Obligations.CmdWriteStartsTheOperation := by
  refine ⟨fun s c rest hb hs => ?_, fun s rest hb hs => ?_⟩
  · rw [step_of_write hb hs]
    exact congrArg Host.Outcome.next (hostWrite_cmd c _)
  · rw [step_of_read hb hs]
    exact congrArg Host.Outcome.next (hostRead_cmd _)

/-- The step of a read of a register that answers a value. -/
theorem step_of_read_value {s : State} {r : HostReg} {v : Word} {rest : List HostInput}
    (hb : s.status.busy = false) (hs : s.Serves (.read (regOffset r) 32) rest)
    (hv : readReg s r = .value v) :
    step s = .next { s with hostIn := rest, hostOut := s.hostOut ++ [⟨regOffset r, v⟩] } := by
  have hv' : readReg (s.setInputs rest) r = .value v := hv
  rw [step_of_read hb hs, hostRead_of_value (regAt_regOffset r) hv']
  rfl

/-- Settles O11: each case names a register and what it reads as. -/
theorem hostReadReturnsTheRegister : Obligations.HostReadReturnsTheRegister := by
  rintro s offset v rest hb hs (⟨rfl, hw, rfl⟩ | ⟨rfl, hw, rfl⟩ | ⟨rfl, hw, rfl⟩ | ⟨rfl, hw, rfl⟩ |
    ⟨rfl, hw, rfl⟩ | ⟨rfl, hw, rfl⟩ | ⟨rfl, rfl⟩ | ⟨rfl, rfl⟩ | ⟨rfl, rfl⟩ | ⟨rfl, rfl⟩ |
    ⟨rfl, rfl⟩)
  · exact step_of_read_value (r := .arg0) hb hs (by simp [readReg, hw])
  · exact step_of_read_value (r := .arg1) hb hs (by simp [readReg, hw])
  · exact step_of_read_value (r := .arg0) hb hs (by simp [readReg, hw])
  · exact step_of_read_value (r := .arg1) hb hs (by simp [readReg, hw])
  · exact step_of_read_value (r := .res0) hb hs (by simp [readReg, hw])
  · exact step_of_read_value (r := .res1) hb hs (by simp [readReg, hw])
  · exact step_of_read_value (r := .status) hb hs (by simp [readReg, statusWord_eq, hb])
  · exact step_of_read_value (r := .geom) hb hs rfl
  · exact step_of_read_value (r := .cfg) hb hs rfl
  · exact step_of_read_value (r := .bufsize) hb hs rfl
  · exact step_of_read_value (r := .window) hb hs rfl

/-- The step of a read of a register whose written-flag is false (R40). -/
theorem step_of_read_unwritten {s : State} {r : HostReg} {rest : List HostInput}
    (hb : s.status.busy = false) (hs : s.Serves (.read (regOffset r) 32) rest)
    (hv : readReg s r = .unwritten) :
    step s = .next ((s.setInputs rest).addFault .unwrittenRegister) := by
  have hv' : readReg (s.setInputs rest) r = .unwritten := hv
  rw [step_of_read hb hs, hostRead_of_unwritten hv']

/-- Settles O12: both result registers read as unwritten behind a false flag. -/
theorem readOfUnwrittenResultFaults : Obligations.ReadOfUnwrittenResultFaults := by
  rintro s offset rest hb hs (⟨rfl, hw⟩ | ⟨rfl, hw⟩)
  · exact ⟨_, step_of_read_unwritten (r := .res0) hb hs (by simp [readReg, hw]), mem_stickyAdd _ _,
      subset_stickyAdd _ _⟩
  · exact ⟨_, step_of_read_unwritten (r := .res1) hb hs (by simp [readReg, hw]), mem_stickyAdd _ _,
      subset_stickyAdd _ _⟩

/-- Settles O13: the registers at offsets 4 and 8 are ARG0 and ARG1. -/
theorem hostWriteStoresTheOperand : Obligations.HostWriteStoresTheOperand := by
  refine ⟨fun s v rest hb hs => ?_, fun s v rest hb hs => ?_⟩
  · rw [step_of_write hb hs]
    exact congrArg Host.Outcome.next (hostWrite_arg0 v _)
  · rw [step_of_write hb hs]
    exact congrArg Host.Outcome.next (hostWrite_arg1 v _)

end Sys2Proof.Machine

/-! # What CONFIGURE and INIT leave -/

namespace Sys2Proof.Machine

variable {s t : State}

/-! ### CONFIGURE with its memory granted -/

theorem bufferSize_le {w h : Nat} {o : BitVec 2} (hg : GeometryOk w h o) :
    bufferSize w h ≤ 65536 := by
  obtain ⟨-, -, -, -, -, hsize⟩ := hg
  exact hsize

/-- A CONFIGURE that passes every check and is granted its memory commits (R112 to R115). -/
theorem configureWith_commits {p : Params} {fbInit : Nat → Byte} {orient : BitVec 2} {model : Byte}
    (hs : s.status.state = .unconfigured) (hw : s.arg0Written = true) (hm : model ∈ p.models)
    (hg : GeometryOk (widthOperand s.arg0) (heightOperand s.arg0) orient) :
    configureWith p true fbInit orient model s =
      .next (commitConfigure p fbInit orient model s) := by
  rw [configureWith, guarded_of_ok (by simp [acceptedIn, hs]) (by simpa [operandsWritten] using hw),
    validate_eq_none_iff.2 ⟨hm, hg⟩]
  rfl

/-- Settles O21: the commit creates FB from the draw, byte by byte. -/
theorem framebufferBeginsAsTheDraw : Obligations.FramebufferBeginsAsTheDraw := by
  intro s fbInit orient model hs hw hm hg
  refine ⟨?_, rfl⟩
  rw [← widthOperand_eq, ← heightOperand_eq] at hg ⊢
  have hsize : (commitConfigure Config.params fbInit orient model s).bufsize.toNat =
      bufferSize (widthOperand s.arg0) (heightOperand s.arg0) :=
    bufsize_toNat (bufferSize_le hg)
  refine ⟨_, configureWith_commits hs hw hm hg, ?_, hsize, fun i => ?_⟩
  · simp [commitConfigure, State.endOp]
  · rw [hsize]
    exact Memory.create_read _ fbInit i

/-! ### The tables -/

theorem bufferSize_of_mul_eq {w h n : Nat} (hn : w * h = 8 * n) : bufferSize w h = n := by
  rw [bufferSize, hn, Nat.mul_div_cancel_left n (by decide)]

/-- A pixel's byte lies in the buffer: the blocks of R121 are 2 columns by 4 rows, those of R122 are
4 columns by 2 rows, and each fills one byte. -/
theorem mapPixel_fst_lt {w h x y : Nat} {o : BitVec 2} (hg : GeometryOk w h o) (hx : x < w)
    (hy : y < h) : (mapPixel o w h x y).1 < bufferSize w h := by
  obtain ⟨-, -, -, -, ⟨rfl, hw, hh⟩ | ⟨rfl, hw, hh⟩, -⟩ := hg
  · obtain ⟨a, rfl⟩ := Nat.dvd_of_mod_eq_zero hw
    obtain ⟨b, rfl⟩ := Nat.dvd_of_mod_eq_zero hh
    rw [bufferSize_of_mul_eq (show 2 * a * (4 * b) = 8 * (a * b) by ring)]
    simpa [mapPixel, mapA, Nat.mul_comm] using
      Nat.mul_add_lt_mul_of_lt_of_lt (show x / 2 < a by omega)
      (show (4 * b - 1 - y) / 4 < b by omega)
  · obtain ⟨a, rfl⟩ := Nat.dvd_of_mod_eq_zero hw
    obtain ⟨b, rfl⟩ := Nat.dvd_of_mod_eq_zero hh
    rw [bufferSize_of_mul_eq (show 4 * a * (2 * b) = 8 * (b * a) by ring)]
    simpa [mapPixel, mapB, Nat.mul_comm] using
      Nat.mul_add_lt_mul_of_lt_of_lt (show y / 2 < b by omega) (show x / 4 < a by omega)

theorem mapPixel_snd_le (o : BitVec 2) (w h x y : Nat) : (mapPixel o w h x y).2 ≤ 7 := by
  unfold mapPixel mapA mapB
  split <;> exact Nat.sub_le _ _

theorem tableEntry_eq_none {w h i : Nat} {o : BitVec 2} (ht : s.coordMap = some (buildTables w h o))
    (hi : w * h ≤ i) : s.tableEntry i = none := by
  have hoff : (buildTables w h o).offTab[i]? = none := by
    rw [List.getElem?_eq_none_iff, (buildTables_length w h o).1]
    exact hi
  simp [State.tableEntry, ht, hoff]

/-- Settles O25: entry `i` is the one built for the pixel `(i / height, i % height)`. -/
theorem tableEntriesAreOffsetsAndOneHotMasks :
    Obligations.TableEntriesAreOffsetsAndOneHotMasks := by
  rintro s ⟨hgeo, -, -, hbuf, hmap, -⟩ i
  refine ⟨fun hi => ?_, tableEntry_eq_none hmap⟩
  have hh : 0 < s.height := Nat.pos_of_ne_zero fun h0 => by simp [h0] at hi
  have hx : i / s.height < s.width := Nat.div_lt_of_lt_mul (by rwa [Nat.mul_comm])
  have hy : i % s.height < s.height := Nat.mod_lt _ hh
  have hentry := tableEntry_buildTables hmap hx hy
  rw [Nat.div_add_mod'] at hentry
  have hlt := mapPixel_fst_lt hgeo hx hy
  have hbit := mapPixel_snd_le s.orient s.width s.height (i / s.height) (i % s.height)
  refine ⟨_, _, hentry, ?_, _, Nat.lt_succ_of_le hbit, bitMask_eq _ hbit⟩
  rw [hbuf, bufsize_toNat (bufferSize_le hgeo), BitVec.toNat_ofNat]
  exact (Nat.mod_le _ _).trans_lt hlt

/-! ### INIT -/

/-- R166 (a) asks for an entry, so no bring-up table is empty (log entry 11). -/
theorem constrained_bringUp_ne_nil (p : Params) (m : Byte) : p.constrained.bringUp m ≠ [] := by
  simp only [Params.constrained]
  split
  · rename_i hok
    intro hnil
    simp [Params.tableOk, hnil, Config.hasSlpout] at hok
  · exact List.cons_ne_nil _ _

/-- One bring-up entry leaves the lines as its transaction does. -/
theorem lines_entryEvents (e : BringUpEntry) (l : Lines) :
    (entryEvents e).foldl Lines.after l =
      ⟨.deasserted, some (if e.data = [] then .cmd else .data), l.rst⟩ := by
  rw [entryEvents, List.foldl_append, lines_sendCommand, lines_delayEvent]

/-- A bring-up table leaves the lines as its last entry does. -/
theorem lines_table {table : List BringUpEntry} {last : BringUpEntry}
    (hlast : table.getLast? = some last) (l : Lines) :
    (table.flatMap entryEvents).foldl Lines.after l =
      ⟨.deasserted, some (if last.data = [] then .cmd else .data), l.rst⟩ := by
  induction table generalizing l with
  | nil => simp at hlast
  | cons e rest ih =>
    rw [List.flatMap_cons, List.foldl_append, lines_entryEvents]
    cases rest with
    | nil =>
      obtain rfl : e = last := by simpa using hlast
      rfl
    | cons e' rest' => exact ih (by simpa [List.getLast?_cons_cons] using hlast) _

/-- The reset pulse leaves RST asserted where the line is fitted (R164). -/
theorem lines_resetPulse (p : Params) (l : Lines) :
    (resetPulse p).foldl Lines.after l =
      { l with rst := if p.hasRst = true then some .asserted else l.rst } := by
  unfold resetPulse
  split <;> rfl

/-- INIT in the state that accepts it (R167, R168). -/
theorem exec_init (hs : s.status.state = .configured) :
    exec .init s = .next ((s.emit (resetPulse Config.params ++
      bringUpEvents Config.params s.model)).setAsleep false).setReady.endOp :=
  guarded_of_ok (by simp [acceptedIn, hs]) rfl

/-- Settles O37: the events are the model's own written out, and the lines follow the last entry. -/
theorem initEmitsPulseAndBringUp : Obligations.InitEmitsPulseAndBringUp := by
  intro s hs p pulse table post
  obtain ⟨last, hlast⟩ : ∃ last, (p.bringUp s.model).getLast? = some last :=
    ⟨_, List.getLast?_eq_some_getLast (constrained_bringUp_ne_nil _ s.model)⟩
  have hevents : resetPulse p ++ bringUpEvents p s.model = pulse ++ table ++ post :=
    (List.append_assoc _ _ _).symm
  have hlines : (pulse ++ table ++ post).foldl Lines.after s.lines =
      ⟨.deasserted, some (if last.data = [] then .cmd else .data),
        if p.hasRst = true then some .asserted else s.lines.rst⟩ := by
    rw [← hevents, bringUpEvents, List.foldl_append, List.foldl_append, lines_resetPulse,
      lines_table hlast, lines_delayEvent]
  refine ⟨last, hlast, ?_⟩
  rw [exec_init hs, hevents, State.emit, hlines]
  rfl

end Sys2Proof.Machine

/-! # No step stops from the invariant -/

namespace Sys2Proof.Machine

variable {s : State} {i : Instr}

/-! ### What the setup answers: every access of the tables and of FB -/

theorem State.Setup.bufsize_eq (h : s.Setup) : s.bufsize.toNat = bufferSize s.width s.height := by
  obtain ⟨hgeo, -, -, hbuf, -⟩ := h
  rw [hbuf, bufsize_toNat (bufferSize_le hgeo)]

/-- FB holds exactly the bytes that BUFSIZE counts (R31, R36). -/
theorem State.Setup.dense_bufsize (h : s.Setup) : s.fb.Dense s.bufsize.toNat :=
  h.bufsize_eq ▸ h.dense

theorem linearIndex_lt {w h : Nat} {x y : Int} (hr : inRange w h x y = true) :
    linearIndex h x y < w * h := by
  obtain ⟨hx, hy⟩ := inRange_toNat hr
  rw [linearIndex, Nat.mul_comm x.toNat]
  exact Nat.mul_add_lt_mul_of_lt_of_lt hx hy

/-- An in-range pixel has its entry in the tables, and the entry's byte lies in FB. -/
theorem State.Setup.exists_tableEntry (h : s.Setup)
    (hr : inRange s.width s.height s.x s.y = true) :
    ∃ off mask, s.tableEntry (linearIndex s.height s.x s.y) = some (off, mask) ∧
      off.toNat < s.bufsize.toNat := by
  obtain ⟨hentry, -⟩ := tableEntriesAreOffsetsAndOneHotMasks s h (linearIndex s.height s.x s.y)
  obtain ⟨off, mask, he, hoff, -⟩ := hentry (linearIndex_lt hr)
  exact ⟨off, mask, he, hoff⟩

theorem Memory.exists_write {m : Memory} {a : Nat} {b : Byte} (h : m.read a = some b) (v : Byte) :
    ∃ m', m.write a v = some m' :=
  Option.isSome_iff_exists.1 (by rw [Memory.write_isSome, h]; rfl)

/-! ### No operation stops -/

/-- The checks of `guarded` never stop the machine, so the operation's own effect decides. -/
theorem exists_next_guarded {body : Host.Outcome State Fault Refusal}
    (h : Accepted i s → ∃ t, body = .next t) : ∃ t, guarded i s body = .next t := by
  cases ha : acceptedIn i s.status.state with
  | false => exact ⟨_, guarded_refused ha⟩
  | true =>
    cases hw : operandsWritten i s with
    | false => exact ⟨_, guarded_unwritten ha hw⟩
    | true => rw [guarded_of_ok ha hw]; exact h ⟨ha, hw⟩

theorem exists_next_execConfigure (orient : BitVec 2) (model : Byte) (s : State) :
    ∃ t, execConfigure orient model s = .next t := by
  refine exists_next_guarded fun _ => ?_
  split
  · exact ⟨_, rfl⟩
  · split <;> exact ⟨_, rfl⟩

theorem exists_next_execResolve (h : s.Inv) : ∃ t, execResolve s = .next t := by
  refine exists_next_guarded fun hacc => ?_
  by_cases hr : inRange s.width s.height s.x s.y = true
  · obtain ⟨off, mask, he, -⟩ := (h.setup (hacc.usable nofun)).exists_tableEntry hr
    simp [hr, he]
  · simp [hr]

theorem exists_next_execSetPixel (h : s.Inv) (on : Bool) : ∃ t, execSetPixel on s = .next t := by
  refine exists_next_guarded fun hacc => ?_
  by_cases hr : inRange s.width s.height s.x s.y = true
  · have hS : s.Setup := h.setup (hacc.usable nofun)
    obtain ⟨off, mask, he, hoff⟩ := hS.exists_tableEntry hr
    obtain ⟨b, hread⟩ := hS.dense_bufsize.exists_read hoff
    obtain ⟨m, hwrite⟩ := Memory.exists_write hread (pixelByte on b mask)
    simp [hr, he, hread, hwrite]
  · simp [hr]

theorem exists_next_execFill (h : s.Inv) (on : Bool) : ∃ t, execFill on s = .next t := by
  refine exists_next_guarded fun hacc => ?_
  have hS : s.Setup := h.setup (hacc.usable nofun)
  simp [Memory.fill_dense (fillByte on) hS.dense_bufsize]

theorem exists_next_execFlush (h : s.Inv) : ∃ t, execFlush s = .next t := by
  refine exists_next_guarded fun hacc => ?_
  have hS : s.Setup := h.setup (hacc.usable nofun)
  obtain ⟨buffer, hload⟩ := Memory.readAll_isSome hS.dense_bufsize le_rfl
  simp [hload]

theorem exists_next_exec (h : s.Inv) (i : Instr) : ∃ t, exec i s = .next t := by
  cases i with
  | configure orient model => exact exists_next_execConfigure orient model s
  | resolve => exact exists_next_execResolve h
  | setPixel on => exact exists_next_execSetPixel h on
  | fill on => exact exists_next_execFill h on
  | flush => exact exists_next_execFlush h
  | init | sleep | wake | lowPower | highPower => exact exists_next_guarded fun _ => ⟨_, rfl⟩

/-- A word that does not decode ends with the mark; a decoded one runs its operation (R87). -/
theorem exists_next_runCommand (h : s.Inv) (c : Word) : ∃ t, runCommand c s = .next t := by
  unfold runCommand
  cases decode c with
  | error r => exact ⟨_, rfl⟩
  | ok i => exact exists_next_exec h i

/-- Settles O48: only an operation could stop the step, and the invariant gives each operation that
is accepted the table entries and the bytes of FB that it asks for. -/
theorem stepFromTheInvariantNeverStops : Obligations.StepFromTheInvariantNeverStops := by
  intro s h
  unfold step
  cases nextMove s with
  | run c => exact exists_next_runCommand h c
  | reset rest | serve a rest | idle => exact ⟨_, rfl⟩

end Sys2Proof.Machine

/-! # The statements of 30_encoding.md -/

namespace Sys2Proof.Machine

/-! ### Command words by their fields (R81, R82) -/

/-- No bit of a command word lies outside the fields of R81. -/
theorem word_fieldsOf (c : Word) : (fieldsOf c).word = c := by
  ext i hi
  simp only [Fields.word, fieldsOf, BitVec.getElem_setWidth, BitVec.getLsbD_append,
    BitVec.getLsbD_extractLsb']
  interval_cases i <;> simp [BitVec.getLsbD_eq_getElem]

theorem fieldsOf_inj {c d : Word} : fieldsOf c = fieldsOf d ↔ c = d :=
  ⟨fun h => by rw [← word_fieldsOf c, h, word_fieldsOf], congrArg fieldsOf⟩

theorem extractLsb'_one (c : Word) (k : Nat) :
    c.extractLsb' k 1 = BitVec.ofBool (c.getLsbD k) := by
  ext i hi
  obtain rfl : i = 0 := by omega
  simp

/-- The fields of a command word as the decoder reads them (R85). -/
theorem fieldsOf_eq (c : Word) :
    fieldsOf c = ⟨c.extractLsb' 16 16, modelField c, BitVec.ofBool (c.getLsbD 7), orientField c,
      BitVec.ofBool (onField c), opField c⟩ := by
  simp only [fieldsOf, extractLsb'_one, modelField, orientField, onField, opField]

theorem fieldsOf_and (c d : Word) :
    fieldsOf (c &&& d) =
      ⟨(fieldsOf c).high &&& (fieldsOf d).high, (fieldsOf c).model &&& (fieldsOf d).model,
        (fieldsOf c).bit7 &&& (fieldsOf d).bit7, (fieldsOf c).orient &&& (fieldsOf d).orient,
        (fieldsOf c).f &&& (fieldsOf d).f, (fieldsOf c).op &&& (fieldsOf d).op⟩ := by
  simp only [fieldsOf, BitVec.extractLsb'_and]

theorem fieldUseOk_iff (x : Fields) :
    x.fieldUseOk = true ↔ x.high = 0 ∧ x.bit7 = 0 ∧ ((x.op = 3 ∨ x.op = 4) ∨ x.f = 0) ∧
      (x.op = 1 ∨ x.orient = 0) ∧ (x.op = 1 ∨ x.model = 0) := by
  simp only [Fields.fieldUseOk, Fields.usesF, Fields.usesPanel, Bool.and_eq_true, Bool.or_eq_true,
    beq_iff_eq, and_assoc]

/-- The laws of `Laws.FieldsOfWord`, over every operation. -/
theorem fieldsOfWord_statement (i : Instr) : Laws.FieldsOfWord.Statement i := by
  cases i with
  | configure orient model => exact Laws.FieldsOfWord.configure orient model
  | resolve => exact Laws.FieldsOfWord.resolve
  | setPixel on => exact Laws.FieldsOfWord.setPixel on
  | fill on => exact Laws.FieldsOfWord.fill on
  | init => exact Laws.FieldsOfWord.init
  | flush => exact Laws.FieldsOfWord.flush
  | sleep => exact Laws.FieldsOfWord.sleep
  | wake => exact Laws.FieldsOfWord.wake
  | lowPower => exact Laws.FieldsOfWord.lowPower
  | highPower => exact Laws.FieldsOfWord.highPower

/-! ### The rows of the match and mask table (R84) -/

theorem fieldsOf_pattern {r : Row} (hr : r ∈ opcodeRows) :
    fieldsOf r.pattern = ⟨0, 0, 0, 0, 0, opField r.pattern⟩ := by
  revert r
  decide

/-- A mask leaves free exactly the fields that the operation of the row uses (R82). -/
theorem fieldsOf_mask {r : Row} (hr : r ∈ opcodeRows) :
    fieldsOf r.mask =
      ⟨.allOnes 16, if opField r.pattern = 1 then 0 else .allOnes 8, .allOnes 1,
        if opField r.pattern = 1 then 0 else .allOnes 2,
        if opField r.pattern = 3 ∨ opField r.pattern = 4 then 0 else .allOnes 1, .allOnes 4⟩ := by
  revert r
  decide

theorem and_ite_allOnes_eq_zero_iff {n : Nat} (x : BitVec n) (p : Prop) [Decidable p] :
    x &&& (if p then 0 else .allOnes n) = 0 ↔ p ∨ x = 0 := by
  by_cases hp : p <;> simp [hp]

/-- A word matches a row when it names the row's operation and keeps the field-use rule R82. -/
theorem row_matches_iff {c : Word} {r : Row} (hr : r ∈ opcodeRows) :
    c &&& r.mask = r.pattern ↔
      opField c = opField r.pattern ∧ (fieldsOf c).fieldUseOk = true := by
  have hop : (fieldsOf c).op = opField c := rfl
  rw [← fieldsOf_inj, fieldsOf_and, fieldsOf_mask hr, fieldsOf_pattern hr, fieldUseOk_iff]
  simp only [Fields.mk.injEq, BitVec.and_allOnes, and_ite_allOnes_eq_zero_iff, hop]
  constructor
  · rintro ⟨hhigh, hmodel, hbit7, horient, hf, heq⟩
    exact ⟨heq, heq ▸ ⟨hhigh, hbit7, hf, horient, hmodel⟩⟩
  · rintro ⟨heq, hhigh, hbit7, hf, horient, hmodel⟩
    exact ⟨hhigh, heq ▸ hmodel, hbit7, heq ▸ horient, heq ▸ hf, heq⟩

/-- What a row builds from a word that matches it has the word's fields: the row's operation keeps the
fields it uses, and the field-use rule makes the others 0. -/
theorem fields_build {c : Word} {r : Row} (hr : r ∈ opcodeRows)
    (hop : opField c = opField r.pattern) (hu : (fieldsOf c).fieldUseOk = true) :
    (r.build c).fields = fieldsOf c := by
  rw [fieldUseOk_iff, fieldsOf_eq] at hu
  obtain ⟨hhigh, hbit7, hf, horient, hmodel⟩ := hu
  rw [fieldsOf_eq]
  simp only [opcodeRows, List.mem_cons, List.not_mem_nil, or_false] at hr
  rcases hr with rfl | rfl | rfl | rfl | rfl | rfl | rfl | rfl | rfl | rfl <;>
    simp_all [Instr.fields, opField]

/-- The row of each operation builds the operation from its own command word. -/
theorem exists_row_of_instr (i : Instr) :
    ∃ r, rowOf i.fields.op = some r ∧ r.build (encode i) = i := by
  cases i with
  | configure orient model =>
    obtain ⟨-, hf⟩ := Laws.FieldsOfWord.configure orient model
    rw [fieldsOf_eq] at hf
    simp only [Instr.fields, Fields.mk.injEq] at hf
    obtain ⟨-, hm, -, ho, -⟩ := hf
    exact ⟨_, rfl, congrArg₂ Instr.configure ho hm⟩
  | setPixel on | fill on => exact ⟨_, rfl, by cases on <;> rfl⟩
  | resolve | init | flush | sleep | wake | lowPower | highPower => exact ⟨_, rfl, rfl⟩

/-! ### Decode (R87) -/

theorem rowOf_eq_some {op : BitVec 4} {r : Row} (h : rowOf op = some r) :
    r ∈ opcodeRows ∧ opField r.pattern = op :=
  ⟨List.mem_of_find?_eq_some h, by simpa using List.find?_some h⟩

/-- No row has an OP outside 0x1 to 0xA (R83). -/
theorem rowOf_eq_none_iff {op : BitVec 4} : rowOf op = none ↔ op.toNat = 0 ∨ 11 ≤ op.toNat := by
  rw [← Option.isNone_iff_eq_none]
  revert op
  decide

theorem decode_of_rowOf_none {c : Word} (h : rowOf (opField c) = none) :
    decode c = .error .reservedOpcode := by
  simp only [decode, h]

/-- Decode of a word whose OP names an operation: only the field-use rule is left to check. -/
theorem decode_of_rowOf_some {c : Word} {r : Row} (h : rowOf (opField c) = some r) :
    decode c =
      if (fieldsOf c).fieldUseOk = true then .ok (r.build c) else .error .reservedField := by
  obtain ⟨hr, hop⟩ := rowOf_eq_some h
  simp only [decode, h, row_matches_iff hr, hop, true_and]

theorem fields_of_decode {c : Word} {i : Instr} (h : decode c = .ok i) : i.fields = fieldsOf c := by
  cases hrow : rowOf (opField c) with
  | none => simp [decode_of_rowOf_none hrow] at h
  | some r =>
    obtain ⟨hr, hop⟩ := rowOf_eq_some hrow
    rw [decode_of_rowOf_some hrow] at h
    split at h
    case isTrue hu => cases h; exact fields_build hr hop.symm hu
    case isFalse => cases h

/-- Settles O2: the command word names the operation's row and keeps the field-use rule, and the row
builds the operation again. -/
theorem decodeOfEncodeIsTheOperation : Obligations.DecodeOfEncodeIsTheOperation := by
  intro i
  obtain ⟨hwf, hf⟩ := fieldsOfWord_statement i
  obtain ⟨-, hu⟩ : i.fields.opAssigned = true ∧ i.fields.fieldUseOk = true := by
    simpa [Instr.wellFormed, Fields.wellFormed] using hwf
  obtain ⟨r, hr, hb⟩ := exists_row_of_instr i
  rw [← hf] at hr hu
  rw [decode_of_rowOf_some hr, if_pos hu, hb]

/-- Settles O3: the operation has the word's fields, and a word is its fields. -/
theorem encodeOfDecodeIsTheWord : Obligations.EncodeOfDecodeIsTheWord := by
  intro c i h
  rw [encode, fields_of_decode h, word_fieldsOf]

/-- Settles O4: the rows that a word matches all have the word's OP, and a row's match value is its OP
below fields that are 0. -/
theorem noWordMatchesTwoRows : Obligations.NoWordMatchesTwoRows := by
  intro r hr r' hr' c h h'
  obtain ⟨hop, -⟩ := (row_matches_iff hr).1 h
  obtain ⟨hop', -⟩ := (row_matches_iff hr').1 h'
  rw [← fieldsOf_inj, fieldsOf_pattern hr, fieldsOf_pattern hr', ← hop, hop']

/-- Settles O1: each word runs through the decoder. -/
theorem commandWordsDecodeAsTheFormatSays : Obligations.CommandWordsDecodeAsTheFormatSays :=
  ⟨rfl, rfl, rfl, rfl, rfl, rfl, rfl, rfl, rfl, rfl, rfl, rfl, rfl, rfl⟩

/-! ### Reserved encodings (R89) -/

theorem ofBool_eq_zero_iff (b : Bool) : BitVec.ofBool b = 0 ↔ b = false := by
  cases b <;> decide

theorem fieldUseOk_eq_false_iff (c : Word) :
    (fieldsOf c).fieldUseOk = false ↔ c.getLsbD 7 = true ∨ c.extractLsb' 16 16 ≠ 0 ∨
      (c.getLsbD 4 = true ∧ c.extractLsb' 0 4 ≠ 3 ∧ c.extractLsb' 0 4 ≠ 4) ∨
      ((c.extractLsb' 5 2 ≠ 0 ∨ c.extractLsb' 8 8 ≠ 0) ∧ c.extractLsb' 0 4 ≠ 1) := by
  rw [← Bool.not_eq_true, fieldUseOk_iff, fieldsOf_eq]
  simp only [ofBool_eq_zero_iff, onField, opField, orientField, modelField, ← Bool.not_eq_true]
  tauto

/-- What decode answers for each word: its OP is outside R83, or its fields break R82, or it is an
operation's. -/
theorem decode_reserved_iff (c : Word) :
    (decode c = .error .reservedOpcode ↔ (opField c).toNat = 0 ∨ 11 ≤ (opField c).toNat) ∧
    (decode c = .error .reservedField ↔
      (1 ≤ (opField c).toNat ∧ (opField c).toNat ≤ 10) ∧ (fieldsOf c).fieldUseOk = false) ∧
    ((∃ i, decode c = .ok i) ∨ decode c = .error .reservedOpcode ∨
      decode c = .error .reservedField) := by
  have hop : (1 ≤ (opField c).toNat ∧ (opField c).toNat ≤ 10) ↔ rowOf (opField c) ≠ none := by
    rw [Ne, rowOf_eq_none_iff]
    omega
  rw [hop, ← rowOf_eq_none_iff]
  cases hrow : rowOf (opField c) with
  | none => simp [decode_of_rowOf_none hrow]
  | some r =>
    rw [decode_of_rowOf_some hrow]
    cases (fieldsOf c).fieldUseOk <;> simp

theorem exists_cause_of_unsupported {p : Params} {w h : Nat} {orient : BitVec 2} {model : Byte}
    (hbad : orient = 2 ∨ orient = 3 ∨ model ∉ p.models) :
    ∃ cause, validate p w h orient model = some cause := by
  rw [← Option.ne_none_iff_exists', Ne, validate_eq_none_iff]
  rintro ⟨hm, -, -, -, -, ho, -⟩
  obtain rfl | rfl | hbad := hbad
  · simp at ho
  · simp at ho
  · exact hbad hm

/-- Settles O5: decode refuses by the OP and then by the field-use rule, and an unsupported CONFIGURE
fails a check of R111. -/
theorem reservedEncodingsAreRefused : Obligations.ReservedEncodingsAreRefused := by
  refine ⟨fun c => ?_, fun p allocOk fbInit s orient model hs hw hbad => ?_, fun _ _ _ => rfl⟩
  · rw [← fieldUseOk_eq_false_iff]
    exact decode_reserved_iff c
  · obtain ⟨cause, hv⟩ := exists_cause_of_unsupported hbad
    refine ⟨decodeOfEncodeIsTheOperation _, cause, ?_⟩
    have ha : acceptedIn (.configure orient model) s.status.state = true := by
      rw [hs]
      rfl
    rw [configureWith, guarded_of_ok ha hw, hv]
    rfl

/-! ### Refused operations and refused words -/

theorem exec_refused {s : State} {i : Instr} (ha : acceptedIn i s.status.state = false) :
    exec i s = .next (refuseOp .wrongState s) := by
  cases i <;> exact guarded_refused ha

/-- Settles O16: the states listed are those of the acceptance table. -/
theorem operationsOutsideTheirStatesAreRefused :
    Obligations.OperationsOutsideTheirStatesAreRefused := by
  intro i s h
  have hrefused : acceptedIn i s.status.state = false := by
    rw [Bool.eq_false_iff]
    intro ha
    cases i <;> exact h (by simpa [acceptedIn] using ha)
  exact exec_refused hrefused

/-- Settles O9: the step of a word that does not decode is its refusal. -/
theorem refusedWordLeavesOnlyTheMark : Obligations.RefusedWordLeavesOnlyTheMark := by
  intro s c r hr hd
  rw [step_of_runs hr, runCommand, hd]
  rfl

/-! ### The assembler (R91, R92) -/

/-- ARG0 as R91 computes it is laid out as GEOM. -/
theorem geometryArg_natCast {w h : Nat} (hw : w < 65536) (hh : h < 65536) :
    geometryArg w h = geomWord w h := by
  rw [geomWord_eq w h hw, geometryArg, word32, word32, BitVec.ofInt_natCast, BitVec.ofInt_natCast]
  apply BitVec.eq_of_toNat_eq
  have hshift : h <<< 16 = h * 65536 := Nat.shiftLeft_eq h 16
  calc
    (BitVec.ofNat 32 h <<< 16 ||| BitVec.ofNat 32 w).toNat = h <<< 16 ||| w := by
      rw [BitVec.toNat_or, BitVec.toNat_shiftLeft, BitVec.toNat_ofNat, BitVec.toNat_ofNat,
        Nat.mod_eq_of_lt (a := h) (by omega), Nat.mod_eq_of_lt (a := w) (by omega),
        Nat.mod_eq_of_lt (by omega)]
    _ = h * 65536 + w := by rw [← Nat.shiftLeft_add_eq_or_of_lt hw, hshift]
    _ = (BitVec.ofNat 32 (h * 65536 + w)).toNat := (Nat.mod_eq_of_lt (by omega)).symm

theorem word32_toNat {n : Nat} (v : BitVec n) : word32 v.toNat = v.setWidth 32 := by
  rw [word32, BitVec.ofInt_natCast, BitVec.ofNat_toNat]

/-- The command word of CONFIGURE as R91 computes it is the word of its fields (R81). -/
theorem configureCmd_toNat (orient : BitVec 2) (model : Byte) :
    configureCmd orient.toNat model.toNat = encode (.configure orient model) := by
  simp only [configureCmd, word32_toNat, encode, Instr.fields, Fields.word]
  ext i hi
  simp only [BitVec.getElem_setWidth, BitVec.getLsbD_append, BitVec.getElem_or,
    BitVec.getElem_shiftLeft]
  interval_cases i <;> simp [BitVec.getLsbD_eq_getElem]

theorem sint_word32 {x : Int} (h : -2147483648 ≤ x ∧ x ≤ 2147483647) : sint (word32 x) = x := by
  rw [sint, word32, BitVec.toInt_ofInt]
  exact Int.bmod_eq_of_le (by omega) (by omega)

theorem asmGeometryOk_iff {w h o m : Int} : asmGeometryOk w h o m = true ↔
    (0 ≤ w ∧ w ≤ 65535) ∧ (0 ≤ h ∧ h ≤ 65535) ∧ (0 ≤ o ∧ o ≤ 3) ∧ (0 ≤ m ∧ m ≤ 255) := by
  simp only [asmGeometryOk, Bool.and_eq_true, decide_eq_true_eq, and_assoc]

theorem asmCoordsOk_iff {x y : Int} : asmCoordsOk x y = true ↔
    (-2147483648 ≤ x ∧ x ≤ 2147483647) ∧ (-2147483648 ≤ y ∧ y ≤ 2147483647) := by
  simp only [asmCoordsOk, Bool.and_eq_true, decide_eq_true_eq]

theorem assemble_of_wellFormed {l : AsmLine} (h : l.wellFormed = true) :
    assemble l = some ((expandLine l).flatMap baseInputs) :=
  if_pos h

theorem assemble_eq_none {l : AsmLine} (h : ¬l.wellFormed = true) : assemble l = none :=
  if_neg h

/-- The values that a CONFIGURE line writes are its operands, as the operation reads them (R85). -/
theorem configure_operands_readBack {w h o m : Int} (hok : asmGeometryOk w h o m = true) :
    (widthOperand (geometryArg w h) : Int) = w ∧ (heightOperand (geometryArg w h) : Int) = h ∧
      ∃ orient model, decode (configureCmd o m) = .ok (.configure orient model) ∧
        (orient.toNat : Int) = o ∧ (model.toNat : Int) = m := by
  obtain ⟨⟨hw0, hw⟩, ⟨hh0, hh⟩, ⟨ho0, ho⟩, ⟨hm0, hm⟩⟩ := asmGeometryOk_iff.1 hok
  lift w to Nat using hw0
  lift h to Nat using hh0
  lift o to Nat using ho0
  lift m to Nat using hm0
  have hwidth : w < 65536 := by omega
  have hheight : h < 65536 := by omega
  have horient : (BitVec.ofNat 2 o).toNat = o := Nat.mod_eq_of_lt (by omega)
  have hmodel : (BitVec.ofNat 8 m).toNat = m := Nat.mod_eq_of_lt (by omega)
  have hcmd := configureCmd_toNat (BitVec.ofNat 2 o) (BitVec.ofNat 8 m)
  rw [horient, hmodel] at hcmd
  refine ⟨?_, ?_, BitVec.ofNat 2 o, BitVec.ofNat 8 m, ?_, by rw [horient], by rw [hmodel]⟩
  · rw [geometryArg_natCast hwidth hheight, widthOperand, width_geomWord w h hwidth]
  · rw [geometryArg_natCast hwidth hheight, heightOperand, height_geomWord w h hheight]
  · rw [hcmd, decodeOfEncodeIsTheOperation]

/-- Settles O58: a line in range is the accesses of its expansion, and each value it writes reads back
as the operand. -/
theorem assembledLinesReadBack : Obligations.AssembledLinesReadBack := by
  refine ⟨fun w h o m hok => ?_, fun w h o m hbad => ?_, fun x y hok => ?_, fun x y on hbad => ?_,
    by decide, fun w h o m configured hc => ?_⟩
  · have hgeo : asmGeometryOk w h o m = true := asmGeometryOk_iff.2 hok
    obtain ⟨hw, hh, orient, model, hd, ho, hm⟩ := configure_operands_readBack hgeo
    exact ⟨_, _, orient, model, assemble_of_wellFormed (l := .configure w h o m) hgeo, hw, hh, hd,
      ho, hm⟩
  · exact assemble_eq_none (mt asmGeometryOk_iff.1 hbad)
  · have hxy : asmCoordsOk x y = true := asmCoordsOk_iff.2 hok
    have hset (on : Int) (hon : asmOnOk on = true) : (AsmLine.setpx x y on).wellFormed = true := by
      simp [AsmLine.wellFormed, hxy, hon]
    have hon := assemble_of_wellFormed (hset 1 rfl)
    have hoff := assemble_of_wellFormed (hset 0 rfl)
    exact ⟨word32 x, word32 y, sint_word32 hok.1, sint_word32 hok.2,
      assemble_of_wellFormed (l := .resolve x y) hxy, hon, hoff,
      (assemble_of_wellFormed (l := .plot x y) hxy).trans hon.symm,
      (assemble_of_wellFormed (l := .erase x y) hxy).trans hoff.symm⟩
  · have hxy : ¬asmCoordsOk x y = true := mt asmCoordsOk_iff.1 hbad
    exact ⟨assemble_eq_none hxy, assemble_eq_none (by simp [AsmLine.wellFormed, hxy])⟩
  · have hgeo : asmGeometryOk w h o m = true := by
      by_contra hn
      simp [assemble_eq_none (l := .configure w h o m) hn] at hc
    rw [assemble_of_wellFormed (l := .configure w h o m) hgeo] at hc
    cases hc
    exact assemble_of_wellFormed (l := .setup w h o m) hgeo

end Sys2Proof.Machine

/-! # The statements of 40_geometry_resolver.md -/

namespace Sys2Proof.Machine

variable {s t : State}

/-! ### When CONFIGURE and RESOLVE pass the checks every operation begins with -/

theorem accepted_configure {orient : BitVec 2} {model : Byte} (hs : s.status.state = .unconfigured)
    (hw : s.arg0Written = true) : Accepted (.configure orient model) s :=
  ⟨by simp [acceptedIn, hs], hw⟩

theorem accepted_resolve (hu : s.Usable) (h0 : s.arg0Written = true) (h1 : s.arg1Written = true) :
    Accepted .resolve s :=
  ⟨by simpa [acceptedIn] using hu, by simp [operandsWritten, h0, h1]⟩

/-! ### The validation of R111 -/

theorem two_le_toNat_iff (orient : BitVec 2) : 2 ≤ orient.toNat ↔ orient ≠ 0 ∧ orient ≠ 1 := by
  revert orient
  decide

/-- R111 for operands, which are 16 bits wide: no upper bound of RANGE can fail, and the two forms
of the DIVISIBILITY check are one. -/
theorem validate_eq {p : Params} {w h : Nat} {orient : BitVec 2} {model : Byte} (hw : w < 65536)
    (hh : h < 65536) :
    validate p w h orient model =
      if model ∉ p.models then some .model
      else if 2 ≤ orient.toNat then some .orient
      else if w < 8 ∨ h < 8 then some .range
      else if ¬((orient = 0 ∧ w % 2 = 0 ∧ h % 4 = 0) ∨ (orient = 1 ∧ w % 4 = 0 ∧ h % 2 = 0)) then
        some .divisibility
      else if 65536 < w * h / 8 then some .size
      else none := by
  have hrange : (¬(Config.minDim ≤ w ∧ w ≤ Config.maxDim) ∨
      ¬(Config.minDim ≤ h ∧ h ≤ Config.maxDim)) ↔ w < 8 ∨ h < 8 := by
    simp only [Config.minDim, Config.maxDim]
    omega
  have hsize : w * h / 8 > 2 ^ Config.offsetBits ↔ 65536 < w * h / 8 := Iff.rfl
  simp only [validate, hrange, hsize, ← two_le_toNat_iff]
  by_cases h0 : orient = 0
  · subst h0
    simp [imp_iff_not_or]
  · by_cases h1 : orient = 1
    · subst h1
      simp [imp_iff_not_or]
    · simp [(two_le_toNat_iff orient).2 ⟨h0, h1⟩]

/-! ### CONFIGURE -/

/-- A CONFIGURE of which a check of R111 fails raises ConfigurationError with that check's cause. -/
theorem configureWith_raises {p : Params} {allocOk : Bool} {fbInit : Nat → Byte}
    {orient : BitVec 2} {model : Byte} {cause : Cause} (hacc : Accepted (.configure orient model) s)
    (hv : validate p (widthOperand s.arg0) (heightOperand s.arg0) orient model = some cause) :
    configureWith p allocOk fbInit orient model s =
      .next (raiseError (.configurationError cause) s) := by
  rw [configureWith, guarded_of_accepted hacc, hv]

/-- Settles O19: with the checks before it passed, each failed check decides the cause. -/
theorem configureRaisesTheFirstFailedCheck : Obligations.ConfigureRaisesTheFirstFailedCheck := by
  intro p allocOk fbInit s orient model cause hs hw w h known packed hcause
  refine ⟨configureWith_raises (accepted_configure hs hw) ?_, rfl⟩
  rw [validate_eq (widthOperand_lt _) (heightOperand_lt _), widthOperand_eq, heightOperand_eq]
  obtain ⟨rfl, hm⟩ | ⟨rfl, hm, ho⟩ | ⟨rfl, hm, ho, hr⟩ | ⟨rfl, hm, ho, hwmin, hhmin, hp⟩ |
    ⟨rfl, hm, hwmin, hhmin, hp, hsize⟩ := hcause
  · rw [if_pos hm]
  · rw [if_neg (not_not.2 hm), if_pos ho]
  · rw [if_neg (not_not.2 hm), if_neg (not_le.2 ho), if_pos hr]
  · rw [if_neg (not_not.2 hm), if_neg (not_le.2 ho), if_neg (by omega), if_pos hp]
  · have ho : ¬2 ≤ orient.toNat := by
      obtain ⟨ho, -⟩ | ⟨ho, -⟩ := hp <;> simp [ho]
    rw [if_neg (not_not.2 hm), if_neg ho, if_neg (by omega), if_neg (not_not.2 hp), if_pos hsize]

/-- The commit of R114 with the setup registers as sums of their fields. -/
theorem commitConfigure_eq (p : Params) (fbInit : Nat → Byte) (orient : BitVec 2) (model : Byte)
    (s : State) :
    commitConfigure p fbInit orient model s =
      { s with
        geom := BitVec.ofNat 32 (heightOperand s.arg0 * 65536 + widthOperand s.arg0)
        cfg := BitVec.ofNat 32 (model.toNat * 256 + orient.toNat)
        bufsize := BitVec.ofNat 32 (widthOperand s.arg0 * heightOperand s.arg0 / 8)
        window := BitVec.ofNat 32 ((p.window model).colStart.toNat +
          256 * (p.window model).colEnd.toNat + 65536 * (p.window model).rowStart.toNat +
          16777216 * (p.window model).rowEnd.toNat)
        coordMap := some (buildTables (widthOperand s.arg0) (heightOperand s.arg0) orient)
        fb := Memory.create (widthOperand s.arg0 * heightOperand s.arg0 / 8) fbInit
        status := { s.status with state := .configured, busy := false }
        pending := none
        draws := s.draws + 1 } := by
  rw [← geomWord_eq _ _ (widthOperand_lt _), ← cfgWord_eq, ← windowWord_eq]
  rfl

/-- Settles O20: past the checks the draw decides between the commit and the allocation failure. -/
theorem configureCommitsOrFailsToAllocate : Obligations.ConfigureCommitsOrFailsToAllocate := by
  intro s orient model hs hw w h win hm hwmin hhmin hpacked hsize
  have hgeo : GeometryOk (widthOperand s.arg0) (heightOperand s.arg0) orient := by
    have hwmax := widthOperand_lt s.arg0
    have hhmax := heightOperand_lt s.arg0
    rw [widthOperand_eq, heightOperand_eq] at *
    exact ⟨hwmin, by omega, hhmin, by omega, hpacked, hsize⟩
  have hexec : exec (.configure orient model) s =
      if Config.allocOk s.draws = true then
        .next (commitConfigure Config.params (Config.fbInit s.draws) orient model s)
      else .next (failAllocation s) := by
    rw [exec, execConfigure, configureWith, guarded_of_accepted (accepted_configure hs hw),
      validate_eq_none_iff.2 ⟨hm, hgeo⟩]
  rw [hexec, commitConfigure_eq, widthOperand_eq, heightOperand_eq]
  split <;> rfl

/-- Past its checks, CONFIGURE leaves the wire, the panel and the marks alone, and either it commits
or it leaves the setup and FB alone (R115, R117). -/
theorem ExecEffect.configure_frame {orient : BitVec 2} {model : Byte}
    (h : ExecEffect s (.configure orient model) t) :
    SameWire s t ∧ SamePanel s t ∧ SameMarks s t ∧
      ((SameSetup s t ∧ t.fb = s.fb) ∨ t.status.state = .configured) := by
  cases h with
  | raise | noMemory =>
    exact ⟨⟨rfl, rfl⟩, ⟨rfl, rfl⟩, ⟨rfl, rfl, rfl⟩, Or.inl ⟨⟨rfl, rfl, rfl, rfl, rfl⟩, rfl⟩⟩
  | commit => exact ⟨⟨rfl, rfl⟩, ⟨rfl, rfl⟩, ⟨rfl, rfl, rfl⟩, Or.inr rfl⟩

/-- Settles O22: a CONFIGURE that a check stops leaves all but its mark, and one past its checks
leaves what its three effects leave. -/
theorem configureFrame : Obligations.ConfigureFrame := by
  intro s t orient model h
  obtain hstop | ⟨hacc, he⟩ := exec_cases h
  · obtain ⟨hargs, hres, hset, hfb, hwire, -, hpanel, hworld, -⟩ := hstop.frame
    exact ⟨hwire, hargs, hres, hpanel, hworld, Or.inl ⟨hset, fun _ => by rw [hfb]⟩,
      fun hs hw => absurd (accepted_configure hs hw) hstop.not_accepted⟩
  · obtain ⟨hargs, hworld⟩ := he.args_world
    obtain ⟨hwire, hpanel, hmarks, hsetup⟩ := he.configure_frame
    refine ⟨hwire, hargs, he.results_of_ne_resolve nofun, hpanel, hworld, ?_, fun _ _ => hmarks⟩
    exact hsetup.imp (fun ⟨hset, hfb⟩ => ⟨hset, fun _ => by rw [hfb]⟩) (⟨hacc.unconfigured, ·⟩)

/-! ### The two mappings (R121, R122) -/

/-- The mapping by its orientation's formula, offset and bit apart. -/
theorem mapPixel_eq (orient : BitVec 2) (w h x y : Nat) :
    mapPixel orient w h x y =
      (if orient = 0 then (x / 2) * (h / 4) + (h - 1 - y) / 4 else (y / 2) * (w / 4) + x / 4,
        if orient = 0 then 7 - ((h - 1 - y) % 4 * 2 + x % 2) else 7 - (y % 2 * 4 + x % 4)) := by
  unfold mapPixel
  split <;> rfl

/-- Each pixel's offset and mask stand in the tables, by number: the offset fits its 16 bits. -/
theorem tableEntry_pixel {w h x y : Nat} {orient : BitVec 2} (hg : GeometryOk w h orient)
    (ht : s.coordMap = some (buildTables w h orient)) (hx : x < w) (hy : y < h) :
    ∃ off mask, s.tableEntry (x * h + y) = some (off, mask) ∧
      off.toNat = (mapPixel orient w h x y).1 ∧ mask = 1#8 <<< (mapPixel orient w h x y).2 := by
  have hoff := (mapPixel_fst_lt hg hx hy).trans_le (bufferSize_le hg)
  exact ⟨_, _, tableEntry_buildTables ht hx hy, Nat.mod_eq_of_lt hoff,
    bitMask_eq _ (mapPixel_snd_le orient w h x y)⟩

/-- Settles O23: the registers read back, and the entry of each pixel is its orientation's pair. -/
theorem tablesHoldTheOrientationsMapping : Obligations.TablesHoldTheOrientationsMapping := by
  intro s fbInit orient model hs hw hm w h hg
  have hwidth : widthOperand s.arg0 = w := widthOperand_eq s.arg0
  have hheight : heightOperand s.arg0 = h := heightOperand_eq s.arg0
  have hmap : (commitConfigure Config.params fbInit orient model s).coordMap =
      some (buildTables w h orient) := by
    rw [← hwidth, ← hheight]
    rfl
  rw [← hwidth, ← hheight] at hg
  refine ⟨_, configureWith_commits hs hw hm hg,
    (State.width_of_geom rfl (widthOperand_lt _)).trans hwidth,
    (State.height_of_geom rfl (heightOperand_lt _)).trans hheight, State.orient_of_cfg rfl,
    fun x y hx hy => ?_⟩
  rw [hwidth, hheight] at hg
  obtain ⟨off, mask, hentry, hoff, hmask⟩ := tableEntry_pixel hg hmap hx hy
  refine ⟨off, mask, hentry, ?_, ?_⟩ <;> rintro rfl <;> exact ⟨hoff, hmask⟩

/-! ### The bijection (R123) -/

/-- A geometry that passes R111 is cut into whole blocks of eight pixels: 2 columns by 4 rows in
orientation A, 4 columns by 2 rows in orientation B. -/
theorem GeometryOk.blocks {w h : Nat} {orient : BitVec 2} (hg : GeometryOk w h orient) :
    ∃ a b, bufferSize w h = a * b ∧
      ((orient = 0 ∧ w = 2 * a ∧ h = 4 * b) ∨ (orient = 1 ∧ h = 2 * a ∧ w = 4 * b)) := by
  obtain ⟨-, -, -, -, ⟨ho, hw, hh⟩ | ⟨ho, hw, hh⟩, -⟩ := hg
  · obtain ⟨a, rfl⟩ := Nat.dvd_of_mod_eq_zero hw
    obtain ⟨b, rfl⟩ := Nat.dvd_of_mod_eq_zero hh
    exact ⟨a, b, bufferSize_of_mul_eq (by ring), Or.inl ⟨ho, rfl, rfl⟩⟩
  · obtain ⟨b, rfl⟩ := Nat.dvd_of_mod_eq_zero hw
    obtain ⟨a, rfl⟩ := Nat.dvd_of_mod_eq_zero hh
    exact ⟨a, b, bufferSize_of_mul_eq (by ring), Or.inr ⟨ho, rfl, rfl⟩⟩

/-- A block's number gives the block's place back. -/
theorem blockNumber_inj {b q r q' r' : Nat} (hr : r < b) (hr' : r' < b)
    (h : q * b + r = q' * b + r') : q = q' ∧ r = r' := by
  have hb : 0 < b := by omega
  have hq := congrArg (· / b) h
  have hm := congrArg (· % b) h
  simp only [Nat.mul_add_mod_self_right, Nat.mod_eq_of_lt hr, Nat.mod_eq_of_lt hr'] at hm
  simp only [Nat.mul_comm _ b, Nat.mul_add_div hb, Nat.div_eq_of_lt hr, Nat.div_eq_of_lt hr',
    Nat.add_zero] at hq
  exact ⟨hq, hm⟩

/-- Every byte offset in the buffer is a block's number. -/
theorem exists_block {a b off : Nat} (h : off < a * b) :
    ∃ q r, q < a ∧ r < b ∧ q * b + r = off := by
  have hb : 0 < b := Nat.pos_of_mul_pos_left (a := a) (by omega)
  exact ⟨off / b, off % b, (Nat.div_lt_iff_lt_mul hb).2 h, Nat.mod_lt _ hb, Nat.div_add_mod' off b⟩

/-- Orientation A by blocks of 2 columns and 4 rows, the rows counted from the last (R121). -/
theorem mapPixel_zero (a b x y : Nat) : mapPixel 0 (2 * a) (4 * b) x y =
    (x / 2 * b + (4 * b - 1 - y) / 4, 7 - ((4 * b - 1 - y) % 4 * 2 + x % 2)) := by
  simp [mapPixel_eq]

/-- Orientation B by blocks of 4 columns and 2 rows (R122). -/
theorem mapPixel_one (a b x y : Nat) : mapPixel 1 (4 * b) (2 * a) x y =
    (y / 2 * b + x / 4, 7 - (y % 2 * 4 + x % 4)) := by
  simp [mapPixel_eq]

/-- Two in-range pixels of one byte and one bit are the same: the byte gives the block, the bit the
place in it. -/
theorem mapPixel_inj {w h x y x' y' : Nat} {orient : BitVec 2} (hg : GeometryOk w h orient)
    (hx : x < w) (hy : y < h) (hx' : x' < w) (hy' : y' < h)
    (heq : mapPixel orient w h x y = mapPixel orient w h x' y') : x = x' ∧ y = y' := by
  obtain ⟨a, b, -, ⟨rfl, rfl, rfl⟩ | ⟨rfl, rfl, rfl⟩⟩ := hg.blocks
  · rw [mapPixel_zero, mapPixel_zero, Prod.mk.injEq] at heq
    obtain ⟨hoff, hbit⟩ := heq
    obtain ⟨hcol, hrow⟩ := blockNumber_inj (by omega) (by omega) hoff
    omega
  · rw [mapPixel_one, mapPixel_one, Prod.mk.injEq] at heq
    obtain ⟨hoff, hbit⟩ := heq
    obtain ⟨hrow, hcol⟩ := blockNumber_inj (by omega) (by omega) hoff
    omega

/-- Every bit of the buffer is a pixel's: the byte names the block, and the bit the place in it. -/
theorem exists_mapPixel_eq {w h off bit : Nat} {orient : BitVec 2} (hg : GeometryOk w h orient)
    (hoff : off < bufferSize w h) (hbit : bit ≤ 7) :
    ∃ x y, x < w ∧ y < h ∧ mapPixel orient w h x y = (off, bit) := by
  obtain ⟨a, b, hsize, hab⟩ := hg.blocks
  obtain ⟨q, r, hq, hr, rfl⟩ := exists_block (hsize ▸ hoff)
  obtain ⟨rfl, rfl, rfl⟩ | ⟨rfl, rfl, rfl⟩ := hab
  · have hcol : (2 * q + (7 - bit) % 2) / 2 = q := by omega
    have hrow : 4 * b - 1 - (4 * b - 1 - (4 * r + (7 - bit) / 2)) = 4 * r + (7 - bit) / 2 := by
      omega
    refine ⟨2 * q + (7 - bit) % 2, 4 * b - 1 - (4 * r + (7 - bit) / 2), by omega, by omega, ?_⟩
    rw [mapPixel_zero, hcol, hrow, Prod.mk.injEq]
    omega
  · have hrow : (2 * q + (7 - bit) / 4) / 2 = q := by omega
    refine ⟨4 * r + (7 - bit) % 4, 2 * q + (7 - bit) / 4, by omega, by omega, ?_⟩
    rw [mapPixel_one, hrow, Prod.mk.injEq]
    omega

/-- Settles O24: the two mappings number the blocks in order and the pixels within each block. -/
theorem pixelMapIsABijection : Obligations.PixelMapIsABijection := fun _ _ orient hg =>
  ⟨fun _ _ hx hy => ⟨mapPixel_fst_lt hg hx hy, mapPixel_snd_le orient _ _ _ _⟩,
    fun _ _ _ _ hx hy hx' hy' => mapPixel_inj hg hx hy hx' hy',
    fun _ _ => exists_mapPixel_eq hg⟩

/-! ### RESOLVE -/

/-- RES1 of an in-range pixel: VALID above the one bit of the mask (R125). -/
theorem validMask_shiftLeft {bit : Nat} (hbit : bit ≤ 7) :
    validMask (1#8 <<< bit) = BitVec.ofNat 32 (256 + 2 ^ bit) := by
  interval_cases bit <;> rfl

theorem exec_resolve_inRange (hacc : Accepted .resolve s) {off : BitVec 16} {mask : Byte}
    (hr : inRange s.width s.height s.x s.y = true)
    (he : s.tableEntry (linearIndex s.height s.x s.y) = some (off, mask)) :
    exec .resolve s = .next (s.setResults (off.setWidth 32) (validMask mask)).endOp := by
  rw [exec, execResolve, guarded_of_accepted hacc, if_pos hr, he]

theorem exec_resolve_outOfRange (hacc : Accepted .resolve s)
    (hr : ¬inRange s.width s.height s.x s.y = true) :
    exec .resolve s = .next (s.setResults 0 0).endOp := by
  rw [exec, execResolve, guarded_of_accepted hacc, if_neg hr]

/-- Settles O26: the pixel's table entry is its orientation's pair, and RESOLVE answers the
entry. -/
theorem resolveInRangeGivesThePair : Obligations.ResolveInRangeGivesThePair := by
  intro s x y hu hS h0 h1 hx hy hxw hyh ir off bit
  obtain ⟨hgeo, -, -, -, hmap, -⟩ := hS
  obtain ⟨off', mask, hentry, hoff, hmask⟩ := tableEntry_pixel hgeo hmap hxw hyh
  have hbit := mapPixel_snd_le s.orient s.width s.height x y
  have hsx : s.x = x := hx
  have hsy : s.y = y := hy
  have hr : inRange s.width s.height s.x s.y = true := by
    rw [hsx, hsy, inRange_iff]
    omega
  have hindex : linearIndex s.height s.x s.y = x * s.height + y := by
    rw [hsx, hsy]
    rfl
  rw [exec_resolve_inRange (accepted_resolve hu h0 h1) hr (hindex ▸ hentry), hmask,
    validMask_shiftLeft hbit, ← BitVec.ofNat_toNat, hoff, mapPixel_eq]
  rfl

/-- Settles O27: the range test of R141 fails, and both results are 0. -/
theorem resolveOutOfRangeGivesZero : Obligations.ResolveOutOfRangeGivesZero := by
  intro s hu h0 h1 hout
  exact exec_resolve_outOfRange (accepted_resolve hu h0 h1) (mt inRange_iff.1 hout)

/-- Settles O28: a RESOLVE that a check stops leaves all but its mark, and one past its checks
writes its two results. -/
theorem resolveFrame : Obligations.ResolveFrame := by
  intro s t h
  obtain hstop | ⟨-, he⟩ := exec_cases h
  · obtain ⟨hargs, -, hset, hfb, hwire, hst, hpanel, hworld, hdraws, -⟩ := hstop.frame
    exact ⟨hargs, hset, fun _ => by rw [hfb], hwire, hst, hpanel, hworld, hdraws,
      fun hu h0 h1 => absurd (accepted_resolve hu h0 h1) hstop.not_accepted⟩
  · cases he with
    | results r0 r1 =>
      simp [SameArgs, SameSetup, SameFb, SameWire, SameStatus, SamePanel, SameWorld, SameMarks]

end Sys2Proof.Machine

/-! # The statements of 41_framebuffer.md -/

namespace Sys2Proof.Machine

variable {s t : State}

/-! ### When SET_PIXEL and FILL pass the checks every operation begins with -/

theorem accepted_setPixel (hu : s.Usable) (h0 : s.arg0Written = true) (h1 : s.arg1Written = true)
    (on : Bool) : Accepted (.setPixel on) s :=
  ⟨by simpa [acceptedIn] using hu, by simp [operandsWritten, h0, h1]⟩

theorem accepted_fill (hu : s.Usable) (on : Bool) : Accepted (.fill on) s :=
  ⟨by simpa [acceptedIn] using hu, rfl⟩

/-! ### One bit of FB -/

/-- The bit `p.2` of the byte at address `p.1`. -/
def Memory.bitAt (m : Memory) (p : Nat × Nat) : Option Bool :=
  (m.read p.1).map fun b => b.getLsbD p.2

/-- What an in-range SET_PIXEL does to FB (R140): the byte at `p.1` is read and written back with
its bit `p.2` cleared for on and set for off. -/
def Memory.storeBit (m : Memory) (p : Nat × Nat) (on : Bool) : Option Memory :=
  (m.read p.1).bind fun b => m.write p.1 (pixelByte on b (1#8 <<< p.2))

section StoreBit

variable {m m' : Memory} {n : Nat} {p q : Nat × Nat} {on : Bool}

theorem Memory.storeBit_eq_some : m.storeBit p on = some m' ↔
    ∃ b, m.read p.1 = some b ∧ m.write p.1 (pixelByte on b (1#8 <<< p.2)) = some m' :=
  Option.bind_eq_some_iff

theorem Memory.Dense.exists_storeBit (h : m.Dense n) (hp : p.1 < n) (on : Bool) :
    ∃ m', m.storeBit p on = some m' := by
  obtain ⟨b, hread⟩ := h.exists_read hp
  obtain ⟨m', hwrite⟩ := Memory.exists_write hread (pixelByte on b (1#8 <<< p.2))
  exact ⟨m', Memory.storeBit_eq_some.2 ⟨b, hread, hwrite⟩⟩

theorem Memory.storeBit_addresses (h : m.storeBit p on = some m') :
    m'.addresses = m.addresses := by
  obtain ⟨b, -, hwrite⟩ := Memory.storeBit_eq_some.1 h
  exact Memory.write_addresses hwrite

/-- The new byte has the pixel's bit as asked (1 is off, R10) and every other bit as before. -/
theorem getLsbD_pixelByte (on : Bool) (b : Byte) {i j : Nat} (hi : i < 8) (hj : j < 8) :
    (pixelByte on b (1#8 <<< i)).getLsbD j = if j = i then !on else b.getLsbD j := by
  have hmask : (1#8 <<< i).getLsbD j = decide (j = i) := by
    rw [BitVec.getLsbD_shiftLeft, BitVec.getLsbD_one, Bool.eq_iff_iff]
    simp only [Bool.and_eq_true, Bool.not_eq_true', decide_eq_true_eq, decide_eq_false_iff_not]
    omega
  cases on with
  | false =>
    rw [pixelByte, if_neg Bool.false_ne_true, BitVec.getLsbD_or, hmask]
    by_cases hij : j = i <;> simp [hij]
  | true =>
    rw [pixelByte, if_pos rfl, BitVec.getLsbD_and, BitVec.getLsbD_not, hmask]
    by_cases hij : j = i <;> simp [hij, hj]

/-- A stored bit reads as stored, and every other bit of FB as before. -/
theorem Memory.bitAt_storeBit (h : m.storeBit p on = some m') (hp : p.2 < 8) (hq : q.2 < 8) :
    m'.bitAt q = if q = p then some (!on) else m.bitAt q := by
  obtain ⟨b, hread, hwrite⟩ := Memory.storeBit_eq_some.1 h
  rw [Memory.bitAt, Memory.read_write hwrite]
  by_cases ha : q.1 = p.1
  · have hqp : q = p ↔ q.2 = p.2 := by simp [Prod.ext_iff, ha]
    rw [if_pos ha, Option.map_some, getLsbD_pixelByte on b hp hq, Memory.bitAt, ha, hread,
      if_congr hqp rfl rfl, Option.map_some, apply_ite some]
  · have hne : q ≠ p := fun heq => ha (heq ▸ rfl)
    rw [if_neg ha, if_neg hne, Memory.bitAt]

/-- What a memory holds bit by bit is all there is to it. -/
theorem Memory.ext_of_bitAt (hm : m.wf = true) (ha : m'.addresses = m.addresses)
    (h : ∀ q : Nat × Nat, q.2 < 8 → m'.bitAt q = m.bitAt q) : m' = m := by
  refine Memory.ext_of_read hm ha fun a => ?_
  cases hread : m.read a with
  | none => simpa [Memory.bitAt, hread] using h (a, 0) (by norm_num)
  | some b =>
    obtain ⟨b', hread'⟩ : ∃ b', m'.read a = some b' := by
      rw [← Option.isSome_iff_exists, Memory.read_isSome_iff, ha, ← Memory.read_isSome_iff, hread]
      rfl
    rw [hread', Option.some_inj]
    refine BitVec.eq_of_getLsbD_eq fun i hi => ?_
    simpa [Memory.bitAt, hread, hread'] using h (a, i) hi

/-- Stores of two different bits commute. -/
theorem Memory.storeBit_comm {m₁ m₂ n₁ n₂ : Memory} {on' : Bool} (hwf : m.wf = true)
    (hp : p.2 < 8) (hq : q.2 < 8) (hpq : p ≠ q)
    (h₁ : m.storeBit p on = some m₁) (h₂ : m₁.storeBit q on' = some m₂)
    (k₁ : m.storeBit q on' = some n₁) (k₂ : n₁.storeBit p on = some n₂) : m₂ = n₂ := by
  have hm : m₂.addresses = m.addresses :=
    (Memory.storeBit_addresses h₂).trans (Memory.storeBit_addresses h₁)
  have hn : n₂.addresses = m.addresses :=
    (Memory.storeBit_addresses k₂).trans (Memory.storeBit_addresses k₁)
  refine Memory.ext_of_bitAt (Memory.wf_of_addresses hn hwf) (hm.trans hn.symm) fun r hr => ?_
  rw [Memory.bitAt_storeBit h₂ hq hr, Memory.bitAt_storeBit h₁ hp hr,
    Memory.bitAt_storeBit k₂ hp hr, Memory.bitAt_storeBit k₁ hq hr]
  by_cases hrp : r = p
  · have hrq : r ≠ q := hrp ▸ hpq
    rw [if_neg hrq, if_pos hrp, if_pos hrp]
  · rw [if_neg hrp, if_neg hrp]

end StoreBit

/-! ### SET_PIXEL at an in-range pixel -/

/-- The byte offset and the bit of a pixel, by the configured orientation (R121, R122). -/
def State.place (s : State) (x y : Nat) : Nat × Nat :=
  mapPixel s.orient s.width s.height x y

theorem State.place_snd_lt (s : State) (x y : Nat) : (s.place x y).2 < 8 :=
  Nat.lt_succ_of_le (mapPixel_snd_le _ _ _ _ _)

theorem State.pixel_eq_bitAt (s : State) (x y : Nat) : s.pixel x y = s.fb.bitAt (s.place x y) :=
  rfl

/-- Different in-range pixels have different bits of FB (R123). -/
theorem State.Setup.place_ne (hS : s.Setup) {x y x' y' : Nat} (hx : x < s.width)
    (hy : y < s.height) (hx' : x' < s.width) (hy' : y' < s.height) (hne : (x, y) ≠ (x', y')) :
    s.place x y ≠ s.place x' y' := by
  obtain ⟨hgeo, -⟩ := hS
  exact fun heq => hne (Prod.ext_iff.2 (mapPixel_inj hgeo hx hy hx' hy' heq))

/-- An in-range SET_PIXEL stores its pixel's bit in FB and ends. -/
theorem exec_setPixel_inRange {on : Bool} (hacc : Accepted (.setPixel on) s) (hS : s.Setup)
    {x y : Nat} (hx : s.x = x) (hy : s.y = y) (hxw : x < s.width) (hyh : y < s.height) :
    ∃ m, s.fb.storeBit (s.place x y) on = some m ∧
      exec (.setPixel on) s = .next (s.setFb m).endOp := by
  have hr : inRange s.width s.height s.x s.y = true := by
    rw [hx, hy, inRange_iff]
    omega
  have hindex : linearIndex s.height s.x s.y = x * s.height + y := by
    rw [hx, hy]
    rfl
  have hdense := hS.dense
  obtain ⟨hgeo, -, -, -, hmap, -⟩ := hS
  obtain ⟨off, mask, hentry, hoff, hmask⟩ := tableEntry_pixel hgeo hmap hxw hyh
  obtain ⟨m, hm⟩ := hdense.exists_storeBit (mapPixel_fst_lt hgeo hxw hyh) on
  obtain ⟨b, hread, hwrite⟩ := Memory.storeBit_eq_some.1 hm
  rw [← hoff] at hread
  rw [← hoff, ← hmask] at hwrite
  refine ⟨m, hm, ?_⟩
  rw [exec, execSetPixel, guarded_of_accepted hacc, if_pos hr, hindex, hentry]
  simp only [hread, hwrite]

/-- Settles O29: the pixel's place is its orientation's pair, and the bit is stored there. -/
theorem setPixelInRangeRewritesTheByte : Obligations.SetPixelInRangeRewritesTheByte := by
  intro s on x y hu hS h0 h1 hx hy hxw hyh ir off bit
  obtain ⟨m, hm, hexec⟩ := exec_setPixel_inRange (accepted_setPixel hu h0 h1 on) hS hx hy hxw hyh
  have hplace : s.place x y = (off, bit) := mapPixel_eq _ _ _ _ _
  rw [hplace] at hm
  obtain ⟨b, hread, hwrite⟩ := Memory.storeBit_eq_some.1 hm
  refine ⟨b, m, hread, hexec, ?_, fun a ha => ?_⟩
  · rw [Memory.read_write hwrite, if_pos rfl]
    rfl
  · rw [Memory.read_write hwrite, if_neg ha]

/-! ### The host draws a pixel: both operands written, then SET_PIXEL (R91) -/

/-- The state after the host has written x and y and SET_PIXEL has left `m` in FB. -/
def State.drawn (s : State) (x y : Nat) (m : Memory) : State :=
  ((s.withArgs x y).setFb m).endOp

@[simp] theorem State.drawn_fb (x y : Nat) (m : Memory) : (s.drawn x y m).fb = m := rfl
@[simp] theorem State.drawn_place (x y : Nat) (m : Memory) :
    (s.drawn x y m).place = s.place := rfl

theorem State.Usable.drawn (hu : s.Usable) (x y : Nat) (m : Memory) : (s.drawn x y m).Usable := hu

theorem State.Setup.drawn (hS : s.Setup) (x y : Nat) {m : Memory}
    (hm : m.addresses = s.fb.addresses) : (s.drawn x y m).Setup := by
  obtain ⟨hgeo, hgeom, hcfg, hbuf, hmap, hdense, herr⟩ := hS
  exact ⟨hgeo, hgeom, hcfg, hbuf, hmap, hm.trans hdense, herr⟩

/-- Drawing an in-range pixel: its coordinates fit ARG0 and ARG1, and its bit is stored. -/
theorem exec_setPixel_withArgs (hu : s.Usable) (hS : s.Setup) (on : Bool) {x y : Nat}
    (hx : x < s.width) (hy : y < s.height) :
    ∃ m, s.fb.storeBit (s.place x y) on = some m ∧
      exec (.setPixel on) (s.withArgs x y) = .next (s.drawn x y m) := by
  have hwidth : s.width < 65536 := (s.geom.extractLsb' 0 16).isLt
  have hheight : s.height < 65536 := (s.geom.extractLsb' 16 16).isLt
  have hu' : (s.withArgs x y).Usable := hu
  have hacc : Accepted (.setPixel on) (s.withArgs x y) := accepted_setPixel hu' rfl rfl on
  exact exec_setPixel_inRange (s := s.withArgs x y) hacc hS (sint_word32 (by omega))
    (sint_word32 (by omega)) hx hy

/-- Settles O32: of all bits of FB only the pixel's moves, and no other pixel has that bit. -/
theorem setPixelChangesExactlyThatPixel : Obligations.SetPixelChangesExactlyThatPixel := by
  intro s on x y hu hS hx hy
  obtain ⟨m, hm, hexec⟩ := exec_setPixel_withArgs hu hS on hx hy
  have hbits (x' y' : Nat) := Memory.bitAt_storeBit hm (s.place_snd_lt x y) (s.place_snd_lt x' y')
  refine ⟨_, hexec, ?_, fun x' y' hx' hy' hne => ?_⟩
  · exact (hbits x y).trans (if_pos rfl)
  · exact (hbits x' y').trans (if_neg (hS.place_ne hx' hy' hx hy hne))

/-- Settles O33: the second store gives the one bit that moved its first value, so FB is the same
bit by bit. -/
theorem writingThePixelBackRestoresFb : Obligations.WritingThePixelBackRestoresFb := by
  intro s on x y original hu hS hx hy horiginal
  have hp := s.place_snd_lt x y
  obtain ⟨m, hm, hexec⟩ := exec_setPixel_withArgs hu hS on hx hy
  have haddr := Memory.storeBit_addresses hm
  obtain ⟨m', hm', hexec'⟩ :=
    exec_setPixel_withArgs (hu.drawn x y m) (hS.drawn x y haddr) (!original) hx hy
  rw [State.drawn_fb, State.drawn_place] at hm'
  refine ⟨_, _, hexec, hexec', ?_⟩
  refine Memory.ext_of_bitAt hS.dense.wf ((Memory.storeBit_addresses hm').trans haddr)
    fun q hq => ?_
  rw [State.drawn_fb, Memory.bitAt_storeBit hm' hp hq, Memory.bitAt_storeBit hm hp hq,
    Bool.not_not]
  by_cases hqp : q = s.place x y
  · rw [if_pos hqp, hqp, ← State.pixel_eq_bitAt, horiginal]
  · rw [if_neg hqp, if_neg hqp]

/-- Settles O34: the two pixels have different bits, and their stores commute. -/
theorem setPixelsCommute : Obligations.SetPixelsCommute := by
  intro s on on' x y x' y' hu hS hx hy hx' hy' hne
  obtain ⟨m₁, h₁, ht⟩ := exec_setPixel_withArgs hu hS on hx hy
  obtain ⟨m₂, h₂, ht'⟩ := exec_setPixel_withArgs (hu.drawn x y m₁)
    (hS.drawn x y (Memory.storeBit_addresses h₁)) on' hx' hy'
  obtain ⟨n₁, k₁, hu₁⟩ := exec_setPixel_withArgs hu hS on' hx' hy'
  obtain ⟨n₂, k₂, hu₂⟩ := exec_setPixel_withArgs (hu.drawn x' y' n₁)
    (hS.drawn x' y' (Memory.storeBit_addresses k₁)) on hx hy
  exact ⟨_, _, _, _, ht, ht', hu₁, hu₂, Memory.storeBit_comm hS.dense.wf (s.place_snd_lt x y)
    (s.place_snd_lt x' y') (hS.place_ne hx hy hx' hy' hne) h₁ h₂ k₁ k₂⟩

/-! ### SET_PIXEL out of range, and its frame -/

/-- Settles O30: the range test fails, and the operation ends with nothing done. -/
theorem setPixelOutOfRangeIsANoOp : Obligations.SetPixelOutOfRangeIsANoOp := by
  intro s on hu h0 h1 hout
  have hr : ¬inRange s.width s.height s.x s.y = true := mt inRange_iff.1 hout
  rw [exec, execSetPixel, guarded_of_accepted (accepted_setPixel hu h0 h1 on), if_neg hr]
  rfl

/-- Replacing FB and ending the operation leaves every other part of the state. -/
theorem setFb_endOp_frame (s : State) (m : Memory) :
    SameArgs s (s.setFb m).endOp ∧ SameResults s (s.setFb m).endOp ∧
      SameSetup s (s.setFb m).endOp ∧ SameWire s (s.setFb m).endOp ∧
      SameStatus s (s.setFb m).endOp ∧ SamePanel s (s.setFb m).endOp ∧
      SameWorld s (s.setFb m).endOp ∧ SameMarks s (s.setFb m).endOp := by
  simp [SameArgs, SameResults, SameSetup, SameWire, SameStatus, SamePanel, SameWorld, SameMarks]

/-- Settles O31: a SET_PIXEL that a check stops leaves all but its mark; past its checks it writes
the byte at the entry's offset, or nothing out of range. -/
theorem setPixelFrame : Obligations.SetPixelFrame := by
  intro s t on h
  obtain hstop | ⟨-, ⟨hr, off, mask, b, m, hentry, -, hwrite, rfl⟩ | ⟨hr, rfl⟩⟩ :=
    execSetPixel_cases h
  · obtain ⟨hargs, hres, hset, hfb, hwire, hst, hpanel, hworld, hdraws, -⟩ := hstop.frame
    exact ⟨hargs, hres, hset, hwire, hst, hpanel, hworld, hdraws, fun _ _ _ _ _ _ => by rw [hfb],
      fun _ _ => by rw [hfb],
      fun hu h0 h1 => absurd (accepted_setPixel hu h0 h1 on) hstop.not_accepted⟩
  · obtain ⟨hargs, hres, hset, hwire, hst, hpanel, hworld, hmarks⟩ := setFb_endOp_frame s m
    refine ⟨hargs, hres, hset, hwire, hst, hpanel, hworld, rfl, fun off' mask' _ hentry' a ha => ?_,
      fun hout => absurd (hr.symm.trans hout) (by decide), fun _ _ _ => hmarks⟩
    obtain ⟨rfl, rfl⟩ : off = off' ∧ mask = mask' := by simpa [hentry] using hentry'
    exact (Memory.read_write hwrite a).trans (if_neg ha)
  · obtain ⟨hargs, hres, hset, hwire, hst, hpanel, hworld, hmarks⟩ := setFb_endOp_frame s s.fb
    exact ⟨hargs, hres, hset, hwire, hst, hpanel, hworld, rfl, fun _ _ _ _ _ _ => rfl,
      fun _ _ => rfl, fun _ _ _ => hmarks⟩

/-! ### FILL -/

/-- Settles O35: on FB as CONFIGURE creates it, FILL is a creation of equal bytes. -/
theorem fillSetsEveryByte : Obligations.FillSetsEveryByte := by
  intro s on hu hS
  refine ⟨Memory.create s.bufsize.toNat fun _ => fillByte on, ?_, Memory.create_read _ _⟩
  rw [exec, execFill, guarded_of_accepted (accepted_fill hu on),
    Memory.fill_dense (fillByte on) hS.dense_bufsize]
  rfl

/-- Settles O36: a FILL that a check stops leaves all but its mark, and one past its checks writes
the bytes below BUFSIZE. -/
theorem fillFrame : Obligations.FillFrame := by
  intro s t on h
  obtain hstop | ⟨-, m, hfill, rfl⟩ := execFill_cases h
  · obtain ⟨hargs, hres, hset, hfb, hwire, hst, hpanel, hworld, hdraws, -⟩ := hstop.frame
    exact ⟨hargs, hres, hset, hwire, hst, hpanel, hworld, hdraws, fun _ _ => by rw [hfb],
      fun hu => absurd (accepted_fill hu on) hstop.not_accepted⟩
  · obtain ⟨hargs, hres, hset, hwire, hst, hpanel, hworld, hmarks⟩ := setFb_endOp_frame s m
    obtain ⟨-, hread⟩ := Memory.fill_spec hfill
    exact ⟨hargs, hres, hset, hwire, hst, hpanel, hworld, rfl,
      fun a ha => (hread a).trans (if_neg (Nat.not_lt.2 ha)), fun _ => hmarks⟩

end Sys2Proof.Machine

/-! # The statements of 42_transport_writer.md -/

namespace Sys2Proof.Machine

variable {s t : State} {i : Instr}

/-! ### What every step leaves on the wire (R161) -/

/-- From `s` to `t` the block emits whole transactions, delays and reset levels, and the lines
follow them. -/
def EmitsWhole (s t : State) : Prop :=
  ∃ es, Whole es ∧ t.trace = s.trace ++ es ∧ t.lines = es.foldl Lines.after s.lines

theorem EmitsWhole.of_sameWire (h : SameWire s t) : EmitsWhole s t := by
  obtain ⟨hlines, htrace⟩ := h
  exact ⟨[], Whole.nil, by simpa using htrace, hlines⟩

theorem EmitsWhole.keeps_traceOk (h : EmitsWhole s t) (htrace : traceOk s.trace = true)
    (hcs : s.lines.cs = .deasserted) : traceOk t.trace = true ∧ t.lines.cs = .deasserted := by
  obtain ⟨es, hes, ht, hl⟩ := h
  rw [ht, hl]
  exact ⟨traceOk_append htrace hes, hes.cs hcs⟩

theorem ExecEffect.emitsWhole (h : ExecEffect s i t) : EmitsWhole s t := by
  cases h with
  | raise | noMemory | commit | results | pixel | noPixel | fill => exact .of_sameWire ⟨rfl, rfl⟩
  | init => exact ⟨_, (resetPulse_whole _).append (bringUpEvents_whole _ _), rfl, rfl⟩
  | flush buffer =>
    exact ⟨_, flushEvents_whole Config.params (windowOf s.window) buffer, by simp, by simp⟩
  | wake => exact ⟨_, (sendCommand_whole _ _).append (delayEvent_whole _), rfl, rfl⟩
  | sleep | lowPower | highPower => exact ⟨_, sendCommand_whole _ _, rfl, rfl⟩

theorem exec_emitsWhole (h : exec i s = .next t) : EmitsWhole s t := by
  obtain hstop | ⟨-, he⟩ := exec_cases h
  · obtain ⟨-, -, -, -, hwire, -⟩ := hstop.frame
    exact .of_sameWire hwire
  · exact he.emitsWhole

/-- Settles O49: a block reset empties the trace and deasserts CS; any other step emits whole
transactions only. -/
theorem stepKeepsTheTraceWellFormed : Obligations.StepKeepsTheTraceWellFormed := by
  intro s t htrace hcs hstep
  obtain ⟨rest, -, rfl⟩ | ⟨a, rest, -, rfl⟩ | ⟨c, -, -, hc⟩ | ⟨-, rfl⟩ := step_cases hstep
  · exact ⟨rfl, rfl⟩
  · obtain ⟨-, -, -, hwire, -⟩ := hostAccess_frame a (s.setInputs rest)
    exact (EmitsWhole.of_sameWire hwire).keeps_traceOk htrace hcs
  · obtain ⟨r, -, rfl⟩ | ⟨i, -, he⟩ := runCommand_cases hc
    · exact ⟨htrace, hcs⟩
    · exact (exec_emitsWhole he).keeps_traceOk htrace hcs
  · exact ⟨htrace, hcs⟩

/-! ### The bring-up tables (R166) -/

/-- The minimal table meets R166 whatever the command bytes are: its P_OP_SLPOUT entry is its
last. -/
theorem minimalTable_ok (p : Params) (w : Window) : p.tableOk w (p.minimalTable w) = true := by
  simp [Params.tableOk, Params.minimalTable, Config.hasSlpout, Config.staysAwake,
    Config.setsWindow]

theorem constrained_bringUp_of_ok {p : Params} {m : Byte}
    (h : p.tableOk (p.window m) (p.bringUp m) = true) :
    p.constrained.bringUp m = p.bringUp m :=
  if_pos h

theorem constrained_bringUp_ok (p : Params) (m : Byte) :
    p.tableOk (p.window m) (p.constrained.bringUp m) = true := by
  by_cases hok : p.tableOk (p.window m) (p.bringUp m) = true
  · rw [constrained_bringUp_of_ok hok]
    exact hok
  · have hmin : p.constrained.bringUp m = p.minimalTable (p.window m) := if_neg hok
    rw [hmin]
    exact minimalTable_ok p _

theorem constrained_valid {p : Params} (h : p.models ≠ []) : p.constrained.Valid :=
  ⟨h, fun m _ => constrained_bringUp_ok p m⟩

/-- Settles O38: the constraint keeps a table that meets R166 and puts one that meets it in the
place of any other. -/
theorem bringUpTablesMeetTheirConstraint : Obligations.BringUpTablesMeetTheirConstraint :=
  ⟨constrained_valid (List.cons_ne_nil _ _), fun _ hne =>
    ⟨constrained_valid hne, fun ⟨_, hok⟩ m hm => constrained_bringUp_of_ok (hok m hm)⟩⟩

/-! ### The operations that READY accepts -/

/-- READY accepts each operation on the wire but INIT, and none of them reads an operand (R86,
R88). -/
theorem accepted_of_ready (hs : s.status.state = .ready)
    (hi : i ∈ [Instr.flush, .sleep, .wake, .lowPower, .highPower] := by decide) :
    Accepted i s := by
  fin_cases hi <;> exact ⟨by simp [acceptedIn, hs], rfl⟩

/-! ### FLUSH -/

/-- A configured buffer is not empty: it holds 8 by 8 pixels or more (R111). -/
theorem bufferSize_pos {w h : Nat} {o : BitVec 2} (hg : GeometryOk w h o) : 0 < bufferSize w h := by
  obtain ⟨hw, -, hh, -⟩ := hg
  have hpixels : 8 * 8 ≤ w * h := Nat.mul_le_mul hw hh
  unfold bufferSize
  omega

/-- The sequential load of FB answers all its bytes, and there is at least one (R36, R94). -/
theorem State.Setup.exists_bytes (hS : s.Setup) :
    ∃ bytes, s.fb.readAll s.bufsize.toNat = some bytes ∧ bytes ≠ [] ∧
      bytes.length = s.bufsize.toNat ∧ ∀ a < s.bufsize.toNat, s.fb.read a = bytes[a]? := by
  obtain ⟨bytes, hload⟩ := Memory.readAll_isSome hS.dense_bufsize le_rfl
  obtain ⟨hlen, hread⟩ := Memory.readAll_spec hload
  have hsize := hS.bufsize_eq
  obtain ⟨hgeo, -⟩ := hS
  have hpos : 0 < s.bufsize.toNat := hsize ▸ bufferSize_pos hgeo
  exact ⟨bytes, hload, List.ne_nil_of_length_pos (hlen ▸ hpos), hlen, hread⟩

/-- FLUSH in the state that accepts it (R169). -/
theorem exec_flush (hs : s.status.state = .ready) {bytes : List Byte}
    (hload : s.fb.readAll s.bufsize.toNat = some bytes) :
    exec .flush s = .next
      (s.noteFlush.emit (flushEvents Config.params (windowOf s.window) bytes)).endOp := by
  rw [exec, execFlush, flushWith, guarded_of_accepted (accepted_of_ready hs), hload]

/-- The five transactions of FLUSH, event by event (R162, R169). -/
theorem flushEvents_eq (p : Params) (w : Window) {bytes : List Byte} (hne : bytes ≠ []) :
    flushEvents p w bytes =
      ([.dc .cmd, .csOn, .tx p.opHpm, .csOff] : List Event) ++
        ([.dc .cmd, .csOn, .tx p.opDispon, .csOff] : List Event) ++
        ([.dc .cmd, .csOn, .tx p.opCaset, .dc .data, .tx w.colStart, .tx w.colEnd, .csOff] :
          List Event) ++
        ([.dc .cmd, .csOn, .tx p.opRaset, .dc .data, .tx w.rowStart, .tx w.rowEnd, .csOff] :
          List Event) ++
        ([.dc .cmd, .csOn, .tx p.opRamwr, .dc .data] : List Event) ++ bytes.map Event.tx ++
        [.csOff] := by
  simp [flushEvents, sendCommand, hne]

/-- FLUSH leaves the lines as its last transaction, the memory write, does. -/
theorem lines_flushEvents (p : Params) (w : Window) {bytes : List Byte} (hne : bytes ≠ [])
    (l : Lines) :
    (flushEvents p w bytes).foldl Lines.after l = ⟨.deasserted, some .data, l.rst⟩ := by
  simp only [flushEvents, List.foldl_append, lines_sendCommand, if_neg hne]

/-- The hazard of R242 is noted once, and only while the panel sleeps. -/
theorem noteFlush_eq (s : State) :
    s.noteFlush = { s with
      hazards :=
        if s.panelAsleep = true ∧ .flushWhileAsleep ∉ s.hazards then
          s.hazards ++ [.flushWhileAsleep]
        else s.hazards } := by
  unfold State.noteFlush
  by_cases hsleep : s.panelAsleep = true
  · by_cases hmem : Hazard.flushWhileAsleep ∈ s.hazards <;> simp [State.addHazard, hsleep, hmem]
  · rw [if_neg hsleep, if_neg (mt And.left hsleep)]

/-- Settles O39: FB has its bytes, and the events and lines of FLUSH are those of its five
transactions. -/
theorem flushStreamsTheWholeBuffer : Obligations.FlushStreamsTheWholeBuffer := by
  intro s hs hS
  obtain ⟨bytes, hload, hne, hlen, hread⟩ := hS.exists_bytes
  refine ⟨bytes, hlen, hread, ?_⟩
  rw [exec_flush hs hload, State.emit, lines_flushEvents _ _ hne, flushEvents_eq _ _ hne,
    noteFlush_eq]
  rfl

/-- An event of another kind is counted before and after a run of sent bytes. -/
theorem count_around_dataBytes {e : Event} (es es' : List Event) (bytes : List Byte)
    (he : ∀ b, e ≠ .tx b := by nofun) :
    (es ++ bytes.map Event.tx ++ es').count e = es.count e + es'.count e := by
  have hbytes : (bytes.map Event.tx).count e = 0 := List.count_eq_zero.2 fun hmem => by
    obtain ⟨b, -, hb⟩ := List.mem_map.1 hmem
    exact he b hb.symm
  rw [List.count_append, List.count_append, hbytes, Nat.add_zero]

/-- Settles O40: the bytes, the counts and the length of the five transactions, written out. -/
theorem flushEventCounts : Obligations.FlushEventCounts := by
  intro s hs hS
  obtain ⟨bytes, hlen, hread, hexec⟩ := flushStreamsTheWholeBuffer s hs hS
  refine ⟨_, _, bytes, hexec, rfl, hlen, hread, ?_, ?_, count_around_dataBytes _ _ _,
    count_around_dataBytes _ _ _, count_around_dataBytes _ _ _, count_around_dataBytes _ _ _,
    by simp, by simp [hlen]⟩
  · simp [List.filterMap_map]
  · simp [List.countP_map, Function.comp_def, hlen]

/-! ### SLEEP, WAKE, LOW_POWER and HIGH_POWER -/

/-- A command with no data sends its one byte and leaves DC at CMD (R162). -/
theorem emit_command (s : State) (cmd : Byte) :
    s.emit (sendCommand cmd []) = { s with
      trace := s.trace ++ [.dc .cmd, .csOn, .tx cmd, .csOff]
      lines := { s.lines with cs := .deasserted, dc := some .cmd } } :=
  rfl

/-- Settles O41: READY accepts SLEEP, which sends its command. -/
theorem sleepSendsSleepIn : Obligations.SleepSendsSleepIn := by
  intro s hs
  rw [exec, execSleep, sleepWith, guarded_of_accepted (accepted_of_ready hs), emit_command]
  rfl

/-- Settles O42: READY accepts WAKE, which sends its command and then waits. -/
theorem wakeSendsSleepOutAndWaits : Obligations.WakeSendsSleepOutAndWaits := by
  intro s hs
  rw [exec, execWake, wakeWith, guarded_of_accepted (accepted_of_ready hs)]
  rfl

/-- Settles O43: READY accepts both power modes, each of which sends its command. -/
theorem powerModesSendTheirCommand : Obligations.PowerModesSendTheirCommand := by
  intro s hs
  constructor
  · rw [exec, execLowPower, lowPowerWith, guarded_of_accepted (accepted_of_ready hs), emit_command]
    rfl
  · rw [exec, execHighPower, highPowerWith, guarded_of_accepted (accepted_of_ready hs),
      emit_command]
    rfl

/-! ### The frame of the operations on the wire -/

/-- Each operation on the wire is accepted in its one state (R88). -/
theorem accepted_wireOperation
    (hi : i = .init ∨ i = .flush ∨ i = .sleep ∨ i = .wake ∨ i = .lowPower ∨ i = .highPower)
    (hs : (i = .init ∧ s.status.state = .configured) ∨ (i ≠ .init ∧ s.status.state = .ready)) :
    Accepted i s := by
  obtain ⟨rfl, hs⟩ | ⟨hne, hs⟩ := hs
  · exact ⟨by simp [acceptedIn, hs], rfl⟩
  · exact accepted_of_ready hs (by simpa [hne] using hi)

/-- Settles O44: one that a check stops leaves all but its mark, and past the checks the effect is
on the wire, on STATUS and on the panel's marks. -/
theorem wireOperationsFrame : Obligations.WireOperationsFrame := by
  intro i s t hi h
  obtain hstop | ⟨-, he⟩ := exec_cases h
  · obtain ⟨hargs, hres, hset, hfb, -, ⟨hstate, herr, hcause⟩, ⟨hasleep, hhaz⟩, hworld, hdraws,
      -⟩ := hstop.frame
    exact ⟨hargs, hres, hset, fun _ => by rw [hfb], hworld, hdraws, herr, hcause, fun _ => hstate,
      fun _ => hhaz, fun _ => hasleep,
      fun hs => absurd (accepted_wireOperation hi hs) hstop.not_accepted⟩
  · cases he with
    | raise | noMemory | commit | results | pixel | noPixel | fill => simp at hi
    | init | flush | sleep | wake | lowPower | highPower =>
      simp [SameArgs, SameResults, SameSetup, SameFb, SameWorld, SameMarks]

end Sys2Proof.Machine

/-! # The statements of 60_exceptions.md -/

namespace Sys2Proof.Machine

variable {s t : State}

/-- R88 lists FAILED in no operation's STATE set. -/
theorem acceptedIn_failed (i : Instr) : acceptedIn i .failed = false := by
  cases i <;> rfl

theorem exec_of_failed (hf : s.status.state = .failed) (i : Instr) :
    exec i s = .next (refuseOp .wrongState s) :=
  exec_refused (by rw [hf, acceptedIn_failed])

/-- The step of a block reset (R230). -/
theorem step_of_blockReset {rest : List HostInput} (h : s.hostIn = .blockReset :: rest) :
    step s = .next (blockReset (s.setInputs rest)) := by
  simp [step, nextMove, h]

/-- All that is left to a FAILED block short of a reset: serve an access, refuse, or idle. -/
theorem step_of_failed_cases (hf : s.status.state = .failed) (hn : s.NoReset)
    (h : step s = .next t) :
    (∃ a rest, t = hostAccess a (s.setInputs rest)) ∨ (∃ r, t = refuseOp r s) ∨ t = s := by
  obtain ⟨a, rest, -, ht⟩ | hrefused | ⟨c, i, -, -, he⟩ | ht := step_noReset_cases hn h
  · exact Or.inl ⟨a, rest, ht⟩
  · exact Or.inr (Or.inl hrefused)
  · rw [exec_of_failed hf] at he
    exact Or.inr (Or.inl ⟨_, (Host.Outcome.next.inj he).symm⟩)
  · exact Or.inr (Or.inr ht)

/-- The frame of a step in FAILED: only the operands, the marks, BUSY, the sequencer and the host's
lists are left to move. -/
theorem step_of_failed_frame (hf : s.status.state = .failed) (hn : s.NoReset)
    (h : step s = .next t) :
    SameStatus s t ∧ SameSetup s t ∧ t.fb = s.fb ∧ SameWire s t := by
  obtain ⟨a, rest, rfl⟩ | ⟨r, rfl⟩ | rfl := step_of_failed_cases hf hn h
  · obtain ⟨-, hset, hfb, hwire, hstatus, -⟩ := hostAccess_frame a (s.setInputs rest)
    exact ⟨hstatus, hset, hfb, hwire⟩
  · obtain ⟨-, -, hset, hfb, hwire, hstatus, -⟩ := refuseOp_frame r s
    exact ⟨hstatus, hset, hfb, hwire⟩
  · exact ⟨⟨rfl, rfl, rfl⟩, ⟨rfl, rfl, rfl, rfl, rfl⟩, rfl, rfl, rfl⟩

/-- Settles O18: no operation is accepted in FAILED, so only a block reset can move STATUS. -/
theorem failedBlockStaysFailed : Obligations.FailedBlockStaysFailed := by
  refine ⟨fun i s hf => exec_of_failed hf i, fun s t hf hn h => ?_, fun s _ hreset => ?_⟩
  · obtain ⟨⟨hstate, herr, hcause⟩, hset, hfb, hwire⟩ := step_of_failed_frame hf hn h
    exact ⟨hstate.trans hf, herr, hcause, hset, fun a => by rw [hfb], hwire⟩
  · obtain ⟨rest, hrest⟩ : ∃ rest, s.hostIn = .blockReset :: rest := by
      simpa [State.NoReset] using hreset
    exact ⟨_, step_of_blockReset hrest, rfl⟩

end Sys2Proof.Machine

/-! # The statements of 70_reset_and_hazards.md -/

namespace Sys2Proof.Machine

variable {s t : State} {i : Instr}

/-! ### What notes the hazard (R242) -/

theorem noteFlush_hazards_of_awake (h : s.panelAsleep = false) :
    s.noteFlush.hazards = s.hazards := by
  simp [State.noteFlush_hazards, h]

theorem flushWhileAsleep_mem_noteFlush (h : s.panelAsleep = true) :
    .flushWhileAsleep ∈ s.noteFlush.hazards := by
  rw [State.noteFlush_hazards, if_pos h]
  exact mem_stickyAdd _ _

/-- Of all effects only that of FLUSH touches HAZARDS. -/
theorem ExecEffect.hazards_cases (h : ExecEffect s i t) :
    t.hazards = s.hazards ∨ (i = .flush ∧ t.hazards = s.noteFlush.hazards) := by
  cases h with
  | flush buffer => exact Or.inr ⟨rfl, rfl⟩
  | raise | noMemory | commit | results | pixel | noPixel | fill | init | sleep | wake | lowPower
  | highPower => exact Or.inl rfl

/-- HAZARDS moves only under an accepted FLUSH of a sleeping panel. -/
theorem exec_hazards_cases (h : exec i s = .next t) :
    t.hazards = s.hazards ∨
      (i = .flush ∧ s.panelAsleep = true ∧ s.status.state = .ready) := by
  obtain hstop | ⟨hacc, he⟩ := exec_cases h
  · obtain ⟨-, -, -, -, -, -, ⟨-, hhaz⟩, -⟩ := hstop.frame
    exact Or.inl hhaz
  · obtain hhaz | ⟨rfl, hnote⟩ := he.hazards_cases
    · exact Or.inl hhaz
    · cases hasleep : s.panelAsleep with
      | true => exact Or.inr ⟨rfl, rfl, hacc.ready⟩
      | false => exact Or.inl (hnote.trans (noteFlush_hazards_of_awake hasleep))

theorem hostAccess_hazards (a : HostAccess) (s : State) :
    (hostAccess a s).hazards = s.hazards := by
  obtain ⟨-, -, -, -, -, ⟨-, hhaz⟩, -⟩ := hostAccess_frame a s
  exact hhaz

/-- Settles O45: a READY block runs FLUSH to its end, which notes the hazard while the panel sleeps;
any other change of HAZARDS is a block reset's. -/
theorem onlyAFlushWhileAsleepIsAHazard : Obligations.OnlyAFlushWhileAsleepIsAHazard := by
  refine ⟨fun s hs hS hasleep => ?_, fun i s t h hother => ?_, hostAccess_hazards,
    fun s t hn h hnoFlush => ?_⟩
  · obtain ⟨bytes, hload, -⟩ := hS.exists_bytes
    exact ⟨_, exec_flush hs hload, flushWhileAsleep_mem_noteFlush hasleep⟩
  · refine (exec_hazards_cases h).resolve_right ?_
    rintro ⟨hi, hasleep, hready⟩
    simp [hi, hasleep, hready] at hother
  · obtain ⟨a, rest, -, rfl⟩ | ⟨r, rfl⟩ | ⟨c, i, hruns, hi, he⟩ | rfl := step_noReset_cases hn h
    · exact hostAccess_hazards a (s.setInputs rest)
    · rfl
    · refine (exec_hazards_cases he).resolve_right ?_
      rintro ⟨rfl, -⟩
      exact hnoFlush c hruns hi
    · rfl

/-! ### Block reset (R230, R231) -/

/-- Settles O6: each field of the reset state is read off, and the STATUS word is that of four zero
codes. -/
theorem resetLeavesTheSpecifiedValues : Obligations.ResetLeavesTheSpecifiedValues :=
  ⟨rfl, by decide, rfl, rfl, rfl, rfl, rfl, rfl, rfl, rfl, rfl, fun _ => rfl, rfl, rfl, rfl, rfl,
    rfl, rfl, rfl, rfl⟩

/-- Settles O7: a block reset at the head of the inputs is served first, whatever runs. -/
theorem blockResetRestoresTheResetState : Obligations.BlockResetRestoresTheResetState :=
  fun _ _ hreset => step_of_blockReset hreset

/-- Settles O46: the invariant reads nothing of the record of the outside, in which alone the reset
state differs from a block reset of itself. -/
theorem resetMeetsTheInvariant : Obligations.ResetMeetsTheInvariant :=
  blockReset_inv State.reset

end Sys2Proof.Machine
